-- ==== Sys2Proof/Word.lean ====
section
/-! DEFINITION. The word types of the block (00_scope.md rules R7 and R9): all values are unsigned. -/

namespace Sys2Proof

/-- A data byte, `DATA_WIDTH` = 8 bits (R7). -/
abbrev Byte := BitVec 8

/-- A value of the count register, `CNT_WIDTH` = 16 bits (R7, R14). -/
abbrev Count := BitVec 16

/-- A code of the port `cause_in`, 3 bits (R23, R44). -/
abbrev CauseCode := BitVec 3

/-- A selector word, 24 bits (R48, R55). -/
abbrev Selector := BitVec 24

/-- An output event word, 24 bits (R58). -/
abbrev EventWord := BitVec 24

end Sys2Proof
end

