-- ==== Sys2Proof/Config.lean ====
section
/-! DEFINITION. What is fixed for one machine: the parameters of 00_scope.md rule R7, the input record of a step
(30_encoding.md rule R43), and the free values, which are opaque constants with no body. -/

namespace Sys2Proof

/-- The cause classes (R45). `aas` addressed-as-slave, `scd` stop-condition-detected, `xrdy` transmit-data-ready,
`rrdy` receive-data-ready, `nack` not-acknowledged, `undef` any code that is none of the five (R11). -/
inductive CauseClass where
  | undef | nack | rrdy | xrdy | scd | aas
deriving DecidableEq, Repr, Inhabited

/-- How dispatch 2 samples the cause (R7 `D2_SAMPLING`; R90, R91). -/
inductive D2Sampling where
  | perArm | single
deriving DecidableEq, Repr, Inhabited

/-- The map from 3-bit cause code to cause class (R7 `CAUSE_MAP`, R44): entry `c` is the class of code `c`. -/
structure CauseMap where
  classes : Vector CauseClass 8
deriving DecidableEq, Repr, Inhabited

/-- The set of causes whose interrupt enable CONFIGURE sets (R7 `IER`): one membership per class. -/
structure IerSet where
  undef : Bool
  nack  : Bool
  rrdy  : Bool
  xrdy  : Bool
  scd   : Bool
  aas   : Bool
deriving DecidableEq, Repr, Inhabited

/-- The parameters a model takes as an argument or may override (R7, R43). The parameters the source fixes are the
constants `Config.initCnt`, `Config.constA`, `Config.constB`, `Config.bitsPerByte`. -/
structure Params where
  /-- `OWN_ADDR` (OPEN). -/
  ownAddr    : BitVec 7
  /-- `CLK_PSC` (OPEN). -/
  clkPsc     : BitVec 8
  /-- `CLK_LOW` (OPEN). -/
  clkLow     : BitVec 16
  /-- `CLK_HIGH` (OPEN). -/
  clkHigh    : BitVec 16
  /-- `IER` (OPEN). -/
  ier        : IerSet
  /-- `FDF` (OPEN). -/
  fdf        : BitVec 1
  /-- `FREE` (OPEN). -/
  free       : BitVec 1
  /-- `ACK_GROUP` (OPEN); DEDUCED: 16 bits, the width of the event payload that carries it (R58), log 9. -/
  ackGroup   : BitVec 16
  /-- `CAUSE_MAP`. -/
  causeMap   : CauseMap
  /-- `DIR_TX_VALUE`. -/
  dirTxValue : BitVec 1
  /-- `D2_SAMPLING`. -/
  d2Sampling : D2Sampling
deriving DecidableEq, Repr, Inhabited

/-- The host events (R53). -/
inductive HostEvent where
  | reset | configure | invoke
deriving DecidableEq, Repr, Inhabited

/-- What stands at the port `dir_in` (R24, R46): the one-bit direction status, or neither recognised state. -/
inductive DirStatus where
  | bit (b : BitVec 1)
  | unrecognised
deriving DecidableEq, Repr, Inhabited

/-- The inputs of one step (R43): the host event offered, if any, the value at each input port (R23), and the draw
`any8` (R9). -/
structure Inputs where
  event   : Option HostEvent
  causeIn : CauseCode
  dirIn   : DirStatus
  rrdyIn  : BitVec 1
  xrdyIn  : BitVec 1
  drrIn   : Byte
  any8    : Byte
deriving DecidableEq, Repr, Inhabited

/-- The same inputs with neither ready condition observed (R47). -/
def Inputs.withoutReady (x : Inputs) : Inputs := { x with rrdyIn := 0, xrdyIn := 0 }

namespace Config

/-- `INIT_CNT`, the counter value written by CONFIGURE (R7, R8). -/
def initCnt : Count := 2

/-- `CONST_A` (R7, R8). -/
def constA : Byte := 0x55

/-- `CONST_B` (R7, R8). -/
def constB : Byte := 0xFF

/-- `BITS_PER_BYTE` (R7). -/
def bitsPerByte : Nat := 8

/-- The default `CAUSE_MAP` (R44). PRESUMED by the spec itself (general knowledge), log 15. -/
def defaultCauseMap : CauseMap := ⟨#v[.undef, .undef, .nack, .undef, .rrdy, .xrdy, .scd, .aas]⟩

/-- `OWN_ADDR`: OPEN, no value (R7). -/
opaque ownAddr : BitVec 7
/-- `CLK_PSC`: OPEN, no value (R7). -/
opaque clkPsc : BitVec 8
/-- `CLK_LOW`: OPEN, no value (R7). -/
opaque clkLow : BitVec 16
/-- `CLK_HIGH`: OPEN, no value (R7). -/
opaque clkHigh : BitVec 16
/-- `IER`: OPEN, no value (R7). -/
opaque ier : IerSet
/-- `FDF`: OPEN, no value (R7). -/
opaque fdf : BitVec 1
/-- `FREE`: OPEN, no value (R7). -/
opaque free : BitVec 1
/-- `ACK_GROUP`: OPEN, no value (R7). -/
opaque ackGroup : BitVec 16

/-- The free value `any8` that `dxr` holds at power-on (R19, R30; U9), log 3. -/
opaque resetDxr : Byte

/-- The free inputs: what the environment offers at the step of that number once the script is exhausted (R9, R10,
R43; U10), log 2. -/
opaque freeInputs : Nat → Inputs

end Config

/-- The parameters at their defaults (R7), the OPEN ones at their opaque constants. Log 1, log 15. -/
def Params.default : Params where
  ownAddr    := Config.ownAddr
  clkPsc     := Config.clkPsc
  clkLow     := Config.clkLow
  clkHigh    := Config.clkHigh
  ier        := Config.ier
  fdf        := Config.fdf
  free       := Config.free
  ackGroup   := Config.ackGroup
  causeMap   := Config.defaultCauseMap
  dirTxValue := 1
  d2Sampling := .perArm

end Sys2Proof
end

