-- ==== Sys2Proof/Machine/State.lean ====
section
/-! DEFINITION. The state of the block (10_state.md), as plain data, and the reasons a step can stop. -/

namespace Sys2Proof.Machine

/-- The sequencer register, which stands where a program counter would stand (R16). -/
inductive Phase where
  | idle | d1 | waitRx | rxUpd | waitTx | txUpd | d2 | ack | halted
deriving DecidableEq, Repr, Inhabited

/-- The role record (R18). -/
inductive Role where
  | idleUnaddressed | addressedRx | addressedTx
deriving DecidableEq, Repr, Inhabited

/-- The fault kinds (R99). Taking one is the fatal path of R106, a next state. -/
inductive FaultKind where
  /-- Code 1, raised by D2_UNDEF (R92). -/
  | unreachableInterruptCause
  /-- Code 2, raised by DIR_BAD (R71). -/
  | unexpectedDirectionState
  /-- Code 3, raised by D2_XRDY (R94). -/
  | protocolViolationTxReady
  /-- Code 4, raised by D2_RRDY (R95). -/
  | protocolViolationRxReady
  /-- Code 5, raised by D2_NACK (R96). -/
  | notAcknowledged
  /-- Code 6, raised by INVOKE before the first CONFIGURE (R68). -/
  | unconfiguredInvocation
deriving DecidableEq, Repr, Inhabited

/-- The configuration image CONFIGURE writes (R20). The interrupt enables hold one bit per cause class, at the bit index
of its class code (R45). -/
structure CfgImage where
  psc  : BitVec 8
  clkl : BitVec 16
  clkh : BitVec 16
  oar  : BitVec 7
  ier  : BitVec 8
  mst  : BitVec 1
  trx  : BitVec 1
  xa   : BitVec 1
  fdf  : BitVec 1
  bc   : Nat
  irs  : BitVec 1
  free : BitVec 1
  fifo : BitVec 1
deriving DecidableEq, Repr, Inhabited

/-- The output events (R22). -/
inductive Event where
  | dxrWrite (v : Byte)
  | cntWrite (v : Count)
  | cfgWrite (image : CfgImage)
  | groupAck (g : BitVec 16)
  | halt (k : FaultKind)
deriving DecidableEq, Repr, Inhabited

/-- The state of the block: the storage of R13 and the output trace of R22; then the model's own fields, which stand for
the arguments `Params` and `Inputs` of R43's step function (log 1, log 2). -/
@[ext]
structure State where
  /-- Transfer Position Counter (R14); `none` from RESET to the first CONFIGURE, as R14 says. -/
  cnt          : Option Count
  /-- Sequencer (R16). -/
  phase        : Phase
  /-- Dispatch-2 sample index, 0 to 4 (R16, R91). -/
  d2i          : Fin 5
  /-- Whether a CONFIGURE has run since RESET (R17). -/
  configured   : Bool
  /-- Role record (R18). -/
  role         : Role
  /-- Data-transmit register as last written by the block (R19). -/
  dxr          : Byte
  /-- Configuration image (R20); `none` from RESET to the first CONFIGURE. -/
  cfg          : Option CfgImage
  /-- Fault record (R21). -/
  fault        : Option FaultKind
  /-- Output trace, oldest event first (R22). -/
  trace        : List Event
  /-- The parameters of R7; no step changes them. -/
  params       : Params
  /-- The inputs of the coming steps, the next step's first (R43). -/
  script       : List Inputs
  /-- Whether neither ready condition is ever observed in the free inputs: so for a script that ends in an endless wait
  (R56), log 2. -/
  noReadyAfter : Bool
  /-- The number of steps taken: the index of the free inputs once the script is exhausted. -/
  tick         : Nat
deriving DecidableEq, Repr

/-- The machine right after RESET (R30, R116): `dxr` holds the free value `any8`; the model's own fields are the default
parameters (log 1), an empty script with free inputs after it, and step number 0 (DESIGN CHOICE, log 2). -/
def State.reset : State where
  cnt          := none
  phase        := .idle
  d2i          := 0
  configured   := false
  role         := .idleUnaddressed
  dxr          := Config.resetDxr
  cfg          := none
  fault        := none
  trace        := []
  params       := Params.default
  script       := []
  noReadyAfter := false
  tick         := 0

/-- The reasons a step stops with a fault: there are none. Every fault the spec describes (R99) has an entry the spec
describes (R106) and is a next state with `phase = HALTED`; nothing raises a `Fault` (log 23). -/
inductive Fault where
deriving DecidableEq, Repr

/-- The reasons a step is refused. -/
inductive Refusal where
  /-- No meaning yet: raised by a refused arm of `exec` only. Safe: the model stops where the hardware goes on. -/
  | notModelled (mnemonic : String)
  /-- A reserved selector (R52), raised by `step`; the block never forms one. Safe: the model stops. -/
  | reservedSelector
  /-- The selector of an addressed-phase arm needs a counter that holds no value (U7), raised by `step`; not reached
  from RESET, because INVOKE faults first (R68). Safe: the model stops. -/
  | cntHasNoValue
deriving DecidableEq, Repr

end Sys2Proof.Machine
end

