-- ==== Sys2Proof/Machine/Flags.lean ====
section
/-! DEFINITION. The flags `configured` and `role` (10_state.md rules R17, R18), and the codes the spec gives the phases,
the roles, the fault kinds and the output events (R16, R18, R58, R99). -/

namespace Sys2Proof.Machine

/-- `configured <- 1` (R62). -/
def State.setConfigured (s : State) : State := { s with configured := true }

/-- `role <- r` (R62, R71). -/
def State.setRole (r : Role) (s : State) : State := { s with role := r }

/-- The 4-bit phase code (R16). -/
def Phase.code : Phase → BitVec 4
  | .idle   => 0x0
  | .d1     => 0x1
  | .waitRx => 0x2
  | .rxUpd  => 0x3
  | .waitTx => 0x4
  | .txUpd  => 0x5
  | .d2     => 0x6
  | .ack    => 0x7
  | .halted => 0x8

/-- The 2-bit role code (R18). -/
def Role.code : Role → BitVec 2
  | .idleUnaddressed => 0
  | .addressedRx     => 1
  | .addressedTx     => 2

/-- The 3-bit fault code (R99). -/
def FaultKind.code : FaultKind → BitVec 3
  | .unreachableInterruptCause => 1
  | .unexpectedDirectionState  => 2
  | .protocolViolationTxReady  => 3
  | .protocolViolationRxReady  => 4
  | .notAcknowledged           => 5
  | .unconfiguredInvocation    => 6

/-- The 3-bit code of the fault record, 0 for `none` (R99). -/
def faultCode : Option FaultKind → BitVec 3
  | none   => 0
  | some k => k.code

/-- An event word `kind[23:20] ++ 0b0000 ++ payload[15:0]` (R58). -/
def eventWord (kind : BitVec 4) (payload : BitVec 16) : EventWord := kind ++ 0b0000#4 ++ payload

/-- The word of an output event (R58). -/
def Event.word : Event → EventWord
  | .dxrWrite v => eventWord 0x1 (v.zeroExtend 16)
  | .cntWrite v => eventWord 0x2 v
  | .cfgWrite _ => eventWord 0x3 0
  | .groupAck g => eventWord 0x4 g
  | .halt k     => eventWord 0x5 (k.code.zeroExtend 16)

/-- Inside an invocation: any phase from D1 to ACK (R11, R67). -/
def Phase.inInvocation : Phase → Bool
  | .d1 | .waitRx | .rxUpd | .waitTx | .txUpd | .d2 | .ack => true
  | .idle | .halted => false

end Sys2Proof.Machine
end

