-- ==== Sys2Proof/Machine/Operands.lean ====
section
/-! DEFINITION. The operands of the block: the values its rules sample (10_state.md rules R23 to R27, 20_memory.md rule
R33), the cause classifier (R72) and the counter. No sample has a side effect (R35). -/

namespace Sys2Proof.Machine

/-- A sample of `dir_in` (R24). -/
inductive DirSample where
  | receiver | transmitter | unrecognised
deriving DecidableEq, Repr

/-- The free inputs of the step of number `n` (log 2): neither ready condition where the script ended in an endless wait
(R56). -/
def State.freeInputs (s : State) (n : Nat) : Inputs :=
  if s.noReadyAfter = true then (Config.freeInputs n).withoutReady else Config.freeInputs n

/-- The inputs of the step that is `k` steps ahead (R43): the script's record, or, where the script is exhausted by then,
the free inputs of that step number (log 2). -/
def State.inputsAt (s : State) (k : Nat) : Inputs :=
  match s.script.drop k with
  | x :: _ => x
  | []     => s.freeInputs (s.tick + k)

/-- The inputs of the next step (R43). -/
def State.inputs (s : State) : Inputs := s.inputsAt 0

/-- `CAUSE_MAP(c)` (R44). -/
def causeClassOf (m : CauseMap) (c : CauseCode) : CauseClass := m.classes.get c.toFin

/-- `Sample(dir_in)` for a status and a `DIR_TX_VALUE` (R24, R46). -/
def dirSampleOf (txValue : BitVec 1) : DirStatus → DirSample
  | .bit b        => if b = txValue then .transmitter else .receiver
  | .unrecognised => .unrecognised

/-- `Classify` under the state's `CAUSE_MAP` (R72). -/
def State.classify (s : State) (c : CauseCode) : CauseClass := causeClassOf s.params.causeMap c

/-- The host event offered for this step (R43). -/
def State.event (s : State) : Option HostEvent := s.inputs.event

/-- `Classify(Sample(cause_in))` (R69, R90, R91). -/
def State.sampleCause (s : State) : CauseClass := s.classify s.inputs.causeIn

/-- `Sample(dir_in)` (R71). -/
def State.sampleDir (s : State) : DirSample := dirSampleOf s.params.dirTxValue s.inputs.dirIn

/-- `Sample(rrdy_in)` (R77). -/
def State.sampleRrdy (s : State) : BitVec 1 := s.inputs.rrdyIn

/-- `Sample(xrdy_in)` (R83). -/
def State.sampleXrdy (s : State) : BitVec 1 := s.inputs.xrdyIn

/-- `Sample(drr_in)` (R79, R86). -/
def State.sampleDrr (s : State) : Byte := s.inputs.drrIn

/-- The draw `any8` (R9, R43). -/
def State.drawAny8 (s : State) : Byte := s.inputs.any8

/-- The class that comparison `i` of dispatch 2 tests under `PerArm` (R91). -/
def comparedClass : Fin 5 → CauseClass
  | 0 => .undef
  | 1 => .scd
  | 2 => .xrdy
  | 3 => .rrdy
  | 4 => .nack

/-- Whether a dispatch-2 sample of class `k` fires the arm of `k` in this step: always under `Single` (R90), on the
comparison against `k` only under `PerArm` (R91). -/
def State.dispatch2Fires (s : State) (k : CauseClass) : Bool :=
  match s.params.d2Sampling with
  | .single => true
  | .perArm => comparedClass s.d2i == k

/-- Whether a class is in a set of classes (R7 `IER`). -/
def ierMember (e : IerSet) : CauseClass → Bool
  | .undef => e.undef
  | .nack  => e.nack
  | .rrdy  => e.rrdy
  | .xrdy  => e.xrdy
  | .scd   => e.scd
  | .aas   => e.aas

/-- The bits of the interrupt-enable field for a set of classes: bit `classcode(k)` is 1 exactly when `k` is in the set
(R20, R45). DESIGN CHOICE: bits 1 and 3, which stand for no class, are 0, log 8. -/
def ierField (e : IerSet) : BitVec 8 :=
  BitVec.ofBool e.aas ++ BitVec.ofBool e.scd ++ BitVec.ofBool e.xrdy ++ BitVec.ofBool e.rrdy ++ 0#1 ++
    BitVec.ofBool e.nack ++ 0#1 ++ BitVec.ofBool e.undef

/-- The image CONFIGURE writes (R20, R60). -/
def configImage (p : Params) : CfgImage where
  psc  := p.clkPsc
  clkl := p.clkLow
  clkh := p.clkHigh
  oar  := p.ownAddr
  ier  := ierField p.ier
  mst  := 0
  trx  := 0
  xa   := 0
  fdf  := p.fdf
  bc   := Config.bitsPerByte
  irs  := 1
  free := p.free
  fifo := 0

end Sys2Proof.Machine
end

