-- ==== Sys2Proof/Machine/Ops.lean ====
section
/-! DEFINITION. The named operations the arms share: the register writes and their events (R22, R33), the fatal path
(R106) and the return (R73, R108), CONFIGURE (R60, R62), the reset, and the shape of each family of arms. -/

namespace Sys2Proof.Machine

/-- The outcome of a meaning. -/
abbrev Result := Host.Outcome State Fault Refusal

/-- `Emit(e)` (R9, R22). -/
def State.emit (e : Event) (s : State) : State := { s with trace := s.trace ++ [e] }

/-- `goto P` (R9). -/
def State.goto (p : Phase) (s : State) : State := { s with phase := p }

/-- `RegWrite(dxr, v)` and its event (R19, R33). -/
def State.writeDxr (v : Byte) (s : State) : State := { s with dxr := v, trace := s.trace ++ [.dxrWrite v] }

/-- `RegWrite(cnt, v)` and its event (R22, R33). -/
def State.writeCnt (v : Count) (s : State) : State := { s with cnt := some v, trace := s.trace ++ [.cntWrite v] }

/-- `RegWrite(cfg, image)` and its event: the whole image at once (R33, R34, R60). -/
def State.writeCfg (image : CfgImage) (s : State) : State :=
  { s with cfg := some image, trace := s.trace ++ [.cfgWrite image] }

/-- `dxr <- any8` without an event (R62). -/
def State.setDxr (v : Byte) (s : State) : State := { s with dxr := v }

/-- `GROUP_ACK(ACK_GROUP)` (R73). -/
def State.acknowledge (s : State) : State := s.emit (.groupAck s.params.ackGroup)

/-- TAKING A FAULT: `raise Fatal(k)` (R106). The kind is recorded, `HALT(k)` and then the group acknowledge are emitted
(no acknowledge for `UnconfiguredInvocation`), and the block halts with `d2i` 0. Nothing else is written. -/
def State.raiseFatal (k : FaultKind) (s : State) : State :=
  let recorded := ({ s with fault := some k } : State).emit (.halt k)
  let acked := if k = .unconfiguredInvocation then recorded else recorded.acknowledge
  { acked with phase := .halted, d2i := 0 }

/-- RETURNING from an invocation: `Emit(GROUP_ACK(ACK_GROUP)); goto IDLE` (R73, R108). -/
def State.ackReturn (s : State) : State := s.acknowledge.goto .idle

/-- The configurator: the image, the counter primed to `INIT_CNT`, and then `configured`, `role` and `dxr` (R60, R62).
The command and the stop condition both run it. -/
def State.configure (s : State) : State :=
  ((((s.writeCfg (configImage s.params)).writeCnt Config.initCnt).setConfigured).setRole .idleUnaddressed).setDxr
    s.drawAny8

/-- RESET (R116): every field of the block at its value of R30, `dxr` at the draw `any8`, the trace cleared. The parameters
and what the environment will offer are not the block's and stay, log 21. -/
def State.powerOn (s : State) : State :=
  { State.reset with
    dxr := s.drawAny8, params := s.params, script := s.script, noReadyAfter := s.noReadyAfter, tick := s.tick }

/-- An event or an arm that has no step here: nothing changes (R9 `hold`, R28, R61, R68, R107; log 4). -/
def noStep (s : State) : Result := .next s

/-- A host command admitted in phase IDLE only (R53). -/
def inIdle (run : State → State) (s : State) : Result :=
  if s.phase = .idle then .next (run s) else noStep s

/-- A dispatch-1 arm that runs in phase D1 only (R70, R71). -/
def inD1 (run : State → State) (s : State) : Result :=
  if s.phase = .d1 then .next (run s) else noStep s

/-- Dispatch 1 into the receiver (R71). -/
def State.enterReceiver (s : State) : State := (s.setRole .addressedRx).goto .waitRx

/-- Dispatch 1 into the transmitter (R71). -/
def State.enterTransmitter (s : State) : State := (s.setRole .addressedTx).goto .waitTx

/-- One step of the receive busy-wait (R77). -/
def State.pollReceive (s : State) : State := if s.sampleRrdy = 1 then s.goto .rxUpd else s

/-- One step of the transmit busy-wait (R83). -/
def State.pollTransmit (s : State) : State := if s.sampleXrdy = 1 then s.goto .txUpd else s

/-- A receiver arm for the counter `c` (R49, R71, R77, R78): its dispatch in D1, its busy-wait in WAIT_RX and its update in
RX_UPD. It is the selected arm only while the counter is `c`, log 11, log 12. -/
def receiverArm (c : Count) (update : State → State) (s : State) : Result :=
  if s.cnt = some c then
    match s.phase with
    | .d1     => .next s.enterReceiver
    | .waitRx => .next s.pollReceive
    | .rxUpd  => .next (update s)
    | .idle | .waitTx | .txUpd | .d2 | .ack | .halted => noStep s
  else noStep s

/-- A transmitter arm for the counter `c` (R49, R71, R83, R84): its dispatch in D1, its busy-wait in WAIT_TX and its
update in TX_UPD, log 11, log 12. -/
def transmitterArm (c : Count) (update : State → State) (s : State) : Result :=
  if s.cnt = some c then
    match s.phase with
    | .d1     => .next s.enterTransmitter
    | .waitTx => .next s.pollTransmit
    | .txUpd  => .next (update s)
    | .idle | .waitRx | .rxUpd | .d2 | .ack | .halted => noStep s
  else noStep s

/-- After a comparison of dispatch 2 that does not halt: under `Single` dispatch 2 is done (R90), under `PerArm` the next
comparison follows, or the acknowledge after the last (R91). -/
def State.continueDispatch2 (s : State) : State :=
  match s.params.d2Sampling with
  | .single => s.goto .ack
  | .perArm => if s.d2i = 4 then ({ s with d2i := 0 } : State).goto .ack else { s with d2i := s.d2i + 1 }

/-- A dispatch-2 arm for the class `k`: it runs in phase D2, where the sample of class `k` fires it (R90, R91), log 12. -/
def dispatch2Arm (k : CauseClass) (run : State → State) (s : State) : Result :=
  if s.phase = .d2 ∧ s.dispatch2Fires k = true then .next (run s) else noStep s

/-- The step takes its inputs out of the script (R10: the environment may offer others at the next step), log 2. -/
def State.consume (s : State) : State := { s with script := s.script.tail, tick := s.tick + 1 }

/-- An outcome with its next state changed. -/
def mapNext (f : State → State) : Result → Result
  | .next s    => .next (f s)
  | .fault r   => .fault r
  | .refused r => .refused r

end Sys2Proof.Machine
end

