-- ==== Sys2Proof/Machine/EntryDispatch.lean ====
section
/-! DEFINITION. The dispatch-1 arms that end in their own step (41_entry_classifier.md rules R70, R71): DIR_BAD and
D1_PASS. -/

namespace Sys2Proof.Machine

/-- DIR_BAD (R71): the direction is in neither recognised state. -/
def execDirBad (s : State) : Result := inD1 (State.raiseFatal .unexpectedDirectionState) s

/-- D1_PASS.UNDEF (R70). -/
def execD1PassUndef (s : State) : Result := inD1 (State.goto .d2) s

/-- D1_PASS.NACK (R70). -/
def execD1PassNack (s : State) : Result := inD1 (State.goto .d2) s

/-- D1_PASS.RRDY (R70). -/
def execD1PassRrdy (s : State) : Result := inD1 (State.goto .d2) s

/-- D1_PASS.XRDY (R70). -/
def execD1PassXrdy (s : State) : Result := inD1 (State.goto .d2) s

/-- D1_PASS.SCD (R70). -/
def execD1PassScd (s : State) : Result := inD1 (State.goto .d2) s

end Sys2Proof.Machine
end

