-- ==== Sys2Proof/Machine/HostCommands.lean ====
section
/-! DEFINITION. The host commands (30_encoding.md rule R53): RESET, CONFIGURE, INVOKE. -/

namespace Sys2Proof.Machine

/-- RESET (R116): a step in every phase. -/
def execReset (s : State) : Result := .next s.powerOn

/-- CONFIGURE (R60 to R62): a step in phase IDLE only; the phase stays IDLE. -/
def execConfigure (s : State) : Result := inIdle State.configure s

/-- INVOKE (R68): a step in phase IDLE only; a fault before the first CONFIGURE. -/
def execInvoke (s : State) : Result :=
  inIdle (fun s => if s.configured = false then s.raiseFatal .unconfiguredInvocation else s.goto .d1) s

end Sys2Proof.Machine
end

