-- ==== Sys2Proof/Machine/Receive.lean ====
section
/-! DEFINITION. The receiver arms (42_addressed_receive.md rules R77 to R82). -/

namespace Sys2Proof.Machine

/-- RX_C2 (R79): echo the received byte; the counter passes through 1 to 0. -/
def execRxC2 (s : State) : Result :=
  receiverArm 2 (fun s => (((s.writeDxr s.sampleDrr).writeCnt 1).writeCnt 0).goto .d2) s

/-- RX_C1 (R80): the counter goes to 0; no data is read. -/
def execRxC1 (s : State) : Result := receiverArm 1 (fun s => (s.writeCnt 0).goto .d2) s

/-- RX_CX (R81): any other counter; nothing is written. -/
def execRxCx (c : Count) (s : State) : Result :=
  if c = 1 ∨ c = 2 then noStep s else receiverArm c (fun s => s.goto .d2) s

end Sys2Proof.Machine
end

