-- ==== Sys2Proof/Machine/SecondDispatch.lean ====
section
/-! DEFINITION. The dispatch-2 arms (44_secondary_dispatch.md rules R90 to R98). -/

namespace Sys2Proof.Machine

/-- D2_UNDEF (R92). -/
def execD2Undef (s : State) : Result := dispatch2Arm .undef (State.raiseFatal .unreachableInterruptCause) s

/-- D2_SCD (R93): re-run the configurator, then go on with dispatch 2. -/
def execD2Scd (s : State) : Result := dispatch2Arm .scd (fun s => s.configure.continueDispatch2) s

/-- D2_XRDY (R94). -/
def execD2Xrdy (s : State) : Result := dispatch2Arm .xrdy (State.raiseFatal .protocolViolationTxReady) s

/-- D2_RRDY (R95). -/
def execD2Rrdy (s : State) : Result := dispatch2Arm .rrdy (State.raiseFatal .protocolViolationRxReady) s

/-- D2_NACK (R96). -/
def execD2Nack (s : State) : Result := dispatch2Arm .nack (State.raiseFatal .notAcknowledged) s

/-- D2_NONE (R97): addressed-as-slave is none of the compared causes, so nothing fires. Under `PerArm` this selector is
never formed; there the step of a comparison that does not match ends in `continueDispatch2` by itself, log 13. -/
def execD2None (s : State) : Result := dispatch2Arm .aas (State.goto .ack) s

end Sys2Proof.Machine
end

