-- ==== Sys2Proof/Machine/Transmit.lean ====
section
/-! DEFINITION. The transmitter arms (43_addressed_transmit.md rules R83 to R89). -/

namespace Sys2Proof.Machine

/-- TX_C0 (R85): the counter goes to 1; no data write. -/
def execTxC0 (s : State) : Result := transmitterArm 0 (fun s => (s.writeCnt 1).goto .d2) s

/-- TX_C1 (R86): the second echo point. -/
def execTxC1 (s : State) : Result :=
  transmitterArm 1 (fun s => ((s.writeDxr s.sampleDrr).writeCnt 2).goto .d2) s

/-- TX_C2 (R87): constant A. -/
def execTxC2 (s : State) : Result :=
  transmitterArm 2 (fun s => ((s.writeDxr Config.constA).writeCnt 3).goto .d2) s

/-- TX_CX (R88): any other counter: constant B, and the counter wraps to 2. -/
def execTxCx (c : Count) (s : State) : Result :=
  if c = 0 ∨ c = 1 ∨ c = 2 then noStep s
  else transmitterArm c (fun s => ((s.writeDxr Config.constB).writeCnt 2).goto .d2) s

end Sys2Proof.Machine
end

