-- ==== Sys2Proof/Syntax.lean ====
section
/-! DEFINITION. The arms of the block: one constructor per row of spec/opcode_table.json, in the table's order (R59).
Only the catch-all arms carry an operand, the counter field of their selector (R48, R51). -/

namespace Sys2Proof

inductive Instr where
  /-- RESET (R116). -/
  | reset
  /-- CONFIGURE (R60). -/
  | configure
  /-- INVOKE (R68). -/
  | invoke
  /-- RX_C2 (R79). -/
  | rxC2
  /-- RX_C1 (R80). -/
  | rxC1
  /-- RX_CX (R81), with its counter field. -/
  | rxCx (cnt : Count)
  /-- TX_C0 (R85). -/
  | txC0
  /-- TX_C1 (R86). -/
  | txC1
  /-- TX_C2 (R87). -/
  | txC2
  /-- TX_CX (R88), with its counter field. -/
  | txCx (cnt : Count)
  /-- DIR_BAD (R71). -/
  | dirBad
  /-- D1_PASS.UNDEF (R70). -/
  | d1PassUndef
  /-- D1_PASS.NACK (R70). -/
  | d1PassNack
  /-- D1_PASS.RRDY (R70). -/
  | d1PassRrdy
  /-- D1_PASS.XRDY (R70). -/
  | d1PassXrdy
  /-- D1_PASS.SCD (R70). -/
  | d1PassScd
  /-- D2_UNDEF (R92). -/
  | d2Undef
  /-- D2_SCD (R93). -/
  | d2Scd
  /-- D2_XRDY (R94). -/
  | d2Xrdy
  /-- D2_RRDY (R95). -/
  | d2Rrdy
  /-- D2_NACK (R96). -/
  | d2Nack
  /-- D2_NONE (R97). -/
  | d2None
deriving DecidableEq, Repr, Inhabited

end Sys2Proof
end

