-- ==== Sys2Proof/Machine/Dispatch.lean ====
section
/-! DEFINITION. One arm per constructor of Instr, each one direct call of its meaning. -/

namespace Sys2Proof.Machine

def exec (i : Instr) (s : State) : Host.Outcome State Fault Refusal :=
  match i with
  | .reset => Sys2Proof.Machine.execReset s
  | .configure => Sys2Proof.Machine.execConfigure s
  | .invoke => Sys2Proof.Machine.execInvoke s
  | .rxC2 => Sys2Proof.Machine.execRxC2 s
  | .rxC1 => Sys2Proof.Machine.execRxC1 s
  | .rxCx cnt => Sys2Proof.Machine.execRxCx cnt s
  | .txC0 => Sys2Proof.Machine.execTxC0 s
  | .txC1 => Sys2Proof.Machine.execTxC1 s
  | .txC2 => Sys2Proof.Machine.execTxC2 s
  | .txCx cnt => Sys2Proof.Machine.execTxCx cnt s
  | .dirBad => Sys2Proof.Machine.execDirBad s
  | .d1PassUndef => Sys2Proof.Machine.execD1PassUndef s
  | .d1PassNack => Sys2Proof.Machine.execD1PassNack s
  | .d1PassRrdy => Sys2Proof.Machine.execD1PassRrdy s
  | .d1PassXrdy => Sys2Proof.Machine.execD1PassXrdy s
  | .d1PassScd => Sys2Proof.Machine.execD1PassScd s
  | .d2Undef => Sys2Proof.Machine.execD2Undef s
  | .d2Scd => Sys2Proof.Machine.execD2Scd s
  | .d2Xrdy => Sys2Proof.Machine.execD2Xrdy s
  | .d2Rrdy => Sys2Proof.Machine.execD2Rrdy s
  | .d2Nack => Sys2Proof.Machine.execD2Nack s
  | .d2None => Sys2Proof.Machine.execD2None s

end Sys2Proof.Machine
end

