-- ==== Sys2Proof/WellFormed.lean ====
section
/-! DEFINITION. Which arms are well formed: the operand of a catch-all arm is none of the counters that an earlier row
of the table takes (R51). -/

namespace Sys2Proof

/-- `RX_CX` for every `cnt ∉ {1, 2}`, `TX_CX` for every `cnt ∉ {0, 1, 2}` (R51); the other arms have no operand. -/
def Instr.wellFormed : Instr → Bool
  | .rxCx c => c != 1 && c != 2
  | .txCx c => c != 0 && c != 1 && c != 2
  | .reset | .configure | .invoke | .rxC2 | .rxC1 | .txC0 | .txC1 | .txC2 | .dirBad
  | .d1PassUndef | .d1PassNack | .d1PassRrdy | .d1PassXrdy | .d1PassScd
  | .d2Undef | .d2Scd | .d2Xrdy | .d2Rrdy | .d2Nack | .d2None => true

end Sys2Proof
end

