-- ==== Sys2Proof/Decode.lean ====
section
/-! DEFINITION. The selector word (30_encoding.md rules R45, R48 to R55): its fields, the first-match decoder over the
opcode table, and the encoder. -/

namespace Sys2Proof

/-- The 3-bit class code (R45). -/
def classCode : CauseClass → BitVec 3
  | .undef => 0b000
  | .nack  => 0b010
  | .rrdy  => 0b100
  | .xrdy  => 0b101
  | .scd   => 0b110
  | .aas   => 0b111

/-- The 3-bit command code of a host event (R53). -/
def commandCode : HostEvent → BitVec 3
  | .reset     => 0b000
  | .configure => 0b001
  | .invoke    => 0b010

/-- `W[23:22]` (R48). -/
def stageField (w : Selector) : BitVec 2 := w.extractLsb' 22 2
/-- `W[21:19]` (R48). -/
def codeField (w : Selector) : BitVec 3 := w.extractLsb' 19 3
/-- `W[18:17]` (R48). -/
def dirField (w : Selector) : BitVec 2 := w.extractLsb' 17 2
/-- `W[16]` (R48). -/
def rsvField (w : Selector) : BitVec 1 := w.extractLsb' 16 1
/-- `W[15:0]` (R48). -/
def cntField (w : Selector) : Count := w.extractLsb' 0 16

/-- `W = stage ++ code ++ dir ++ 0b0 ++ cnt` (R48). -/
def selectorWord (stage : BitVec 2) (code : BitVec 3) (dir : BitVec 2) (cnt : Count) : Selector :=
  stage ++ code ++ dir ++ 0#1 ++ cnt

/-- The selector of a host command (R53). -/
def hostSelector (e : HostEvent) : Selector := selectorWord 0b00 (commandCode e) 0b00 0

/-- The selector of `D1_PASS` for a class that is not addressed-as-slave (R70). -/
def passSelector (k : CauseClass) : Selector := selectorWord 0b01 (classCode k) 0b00 0

/-- The selector of a receiver arm (R71, R48). -/
def receiverSelector (cnt : Count) : Selector := selectorWord 0b01 (classCode .aas) 0b00 cnt

/-- The selector of a transmitter arm (R71, R48). -/
def transmitterSelector (cnt : Count) : Selector := selectorWord 0b01 (classCode .aas) 0b01 cnt

/-- The selector of `DIR_BAD` (R71): the counter field is 0. -/
def dirBadSelector : Selector := selectorWord 0b01 (classCode .aas) 0b10 0

/-- The selector of a dispatch-2 arm (R50). -/
def dispatch2Selector (k : CauseClass) : Selector := selectorWord 0b10 (classCode k) 0b00 0

/-- One row of the opcode table: its mnemonic, mask and match, and the arm it names, which takes the counter field. -/
structure Row where
  mnemonic : String
  mask     : Selector
  pattern  : Selector
  arm      : Count → Instr

/-- The host-command rows, in the file order of opcode_table.json. -/
def hostRows : List Row :=
  [ ⟨"RESET", 0xFFFFFF, 0x000000, fun _ => .reset⟩,
    ⟨"CONFIGURE", 0xFFFFFF, 0x080000, fun _ => .configure⟩,
    ⟨"INVOKE", 0xFFFFFF, 0x100000, fun _ => .invoke⟩ ]

/-- The dispatch-1 rows, in file order: the catch-all rows come after the rows they exclude (R51). -/
def dispatch1Rows : List Row :=
  [ ⟨"RX_C2", 0xFFFFFF, 0x780002, fun _ => .rxC2⟩,
    ⟨"RX_C1", 0xFFFFFF, 0x780001, fun _ => .rxC1⟩,
    ⟨"RX_CX", 0xFF0000, 0x780000, .rxCx⟩,
    ⟨"TX_C0", 0xFFFFFF, 0x7A0000, fun _ => .txC0⟩,
    ⟨"TX_C1", 0xFFFFFF, 0x7A0001, fun _ => .txC1⟩,
    ⟨"TX_C2", 0xFFFFFF, 0x7A0002, fun _ => .txC2⟩,
    ⟨"TX_CX", 0xFF0000, 0x7A0000, .txCx⟩,
    ⟨"DIR_BAD", 0xFFFFFF, 0x7C0000, fun _ => .dirBad⟩,
    ⟨"D1_PASS.UNDEF", 0xFFFFFF, 0x400000, fun _ => .d1PassUndef⟩,
    ⟨"D1_PASS.NACK", 0xFFFFFF, 0x500000, fun _ => .d1PassNack⟩,
    ⟨"D1_PASS.RRDY", 0xFFFFFF, 0x600000, fun _ => .d1PassRrdy⟩,
    ⟨"D1_PASS.XRDY", 0xFFFFFF, 0x680000, fun _ => .d1PassXrdy⟩,
    ⟨"D1_PASS.SCD", 0xFFFFFF, 0x700000, fun _ => .d1PassScd⟩ ]

/-- The dispatch-2 rows, in file order. -/
def dispatch2Rows : List Row :=
  [ ⟨"D2_UNDEF", 0xFFFFFF, 0x800000, fun _ => .d2Undef⟩,
    ⟨"D2_SCD", 0xFFFFFF, 0xB00000, fun _ => .d2Scd⟩,
    ⟨"D2_XRDY", 0xFFFFFF, 0xA80000, fun _ => .d2Xrdy⟩,
    ⟨"D2_RRDY", 0xFFFFFF, 0xA00000, fun _ => .d2Rrdy⟩,
    ⟨"D2_NACK", 0xFFFFFF, 0x900000, fun _ => .d2Nack⟩,
    ⟨"D2_NONE", 0xFFFFFF, 0xB80000, fun _ => .d2None⟩ ]

/-- spec/opcode_table.json, all 22 rows in file order (R51, R59). -/
def opcodeTable : List Row := hostRows ++ dispatch1Rows ++ dispatch2Rows

/-- Why a selector is refused: the kinds of reserved encoding of R52. -/
inductive Reject where
  /-- `stage = 0b11`. -/
  | reservedStage
  /-- `rsv = 1`. -/
  | reservedBit
  /-- `dir = 0b11`. -/
  | reservedDirection
  /-- Command codes 0b011 to 0b111 in stage 0b00. -/
  | reservedCommand
  /-- Class codes 0b001 and 0b011 in stages 0b01 and 0b10. -/
  | reservedClass
  /-- A nonzero `dir` or `cnt` where R48 says 0. -/
  | nonzeroField
deriving DecidableEq, Repr

/-- A direction and counter field stand in the dispatch-1 selectors of class addressed-as-slave only (R48). -/
def hasDirection (w : Selector) : Prop := stageField w = 0b01 ∧ codeField w = classCode .aas

/-- The reserved selector encodings, as R52 lists them. -/
def ReservedSelector (w : Selector) : Prop :=
  stageField w = 0b11 ∨ rsvField w = 1 ∨ dirField w = 0b11 ∨
  (dirField w ≠ 0 ∧ ¬hasDirection w) ∨
  (cntField w ≠ 0 ∧ ¬(hasDirection w ∧ (dirField w = 0b00 ∨ dirField w = 0b01))) ∨
  ((stageField w = 0b01 ∨ stageField w = 0b10) ∧ (codeField w = 0b001 ∨ codeField w = 0b011)) ∨
  (stageField w = 0b00 ∧ 0b011 ≤ codeField w)

/-- The name of a refused selector's reserved encoding, the first of R52's list that applies. -/
def rejectReason (w : Selector) : Reject :=
  if stageField w = 0b11 then .reservedStage
  else if rsvField w = 1 then .reservedBit
  else if dirField w = 0b11 then .reservedDirection
  else if stageField w = 0b00 ∧ 0b011 ≤ codeField w then .reservedCommand
  else if stageField w ≠ 0b00 ∧ (codeField w = 0b001 ∨ codeField w = 0b011) then .reservedClass
  else .nonzeroField

/-- A row matches a selector when `(W & mask) = match` (R51). -/
def Row.matches (r : Row) (w : Selector) : Bool := w &&& r.mask == r.pattern

/-- The first row in file order that matches (R51), or the name of the reserved encoding (R52). -/
def decode (w : Selector) : Except Reject Instr :=
  match opcodeTable.find? (fun r => r.matches w) with
  | some r => .ok (r.arm (cntField w))
  | none   => .error (rejectReason w)

/-- The selector of an arm (R48, R53, R70, R71, R50). -/
def encode : Instr → Selector
  | .reset       => hostSelector .reset
  | .configure   => hostSelector .configure
  | .invoke      => hostSelector .invoke
  | .rxC2        => receiverSelector 2
  | .rxC1        => receiverSelector 1
  | .rxCx c      => receiverSelector c
  | .txC0        => transmitterSelector 0
  | .txC1        => transmitterSelector 1
  | .txC2        => transmitterSelector 2
  | .txCx c      => transmitterSelector c
  | .dirBad      => dirBadSelector
  | .d1PassUndef => passSelector .undef
  | .d1PassNack  => passSelector .nack
  | .d1PassRrdy  => passSelector .rrdy
  | .d1PassXrdy  => passSelector .xrdy
  | .d1PassScd   => passSelector .scd
  | .d2Undef     => dispatch2Selector .undef
  | .d2Scd       => dispatch2Selector .scd
  | .d2Xrdy      => dispatch2Selector .xrdy
  | .d2Rrdy      => dispatch2Selector .rrdy
  | .d2Nack      => dispatch2Selector .nack
  | .d2None      => dispatch2Selector .aas

/-- The arm the decoder reads from the table word `w` of `nbits` bits: bits `nbits` and above are 0, a selector has 24
bits and no byte order (R32, R55), log 22. -/
def decodeTableWord (nbits w : Nat) : Option Instr :=
  if nbits ≤ 24 then
    match decode (BitVec.ofNat 24 (w % 2 ^ nbits)) with
    | .ok i    => some i
    | .error _ => none
  else none

end Sys2Proof
end

