-- ==== Sys2Proof/Machine/Select.lean ====
section
/-! DEFINITION. The block's fetch: how it forms the selector of the arm that runs next (30_encoding.md rules R43, R48 to
R50), the steps that form none, and how a given arm is made the one the next step runs. -/

namespace Sys2Proof.Machine

/-- What the next step runs. -/
inductive Fetched where
  /-- The arm of this selector. -/
  | selector (w : Selector)
  /-- The phase's own step: no selector is formed. -/
  | phaseStep
  /-- The selector needs a counter that holds no value (U7). -/
  | noCount
deriving DecidableEq, Repr

/-- The selector of an addressed-phase arm holds the counter (R48). -/
def Fetched.withCount (form : Count → Selector) : Option Count → Fetched
  | some c => .selector (form c)
  | none   => .noCount

/-- Dispatch 1: the selector from the class of the cause sample, the direction sample and the counter (R49, R69 to R71). -/
def State.fetchDispatch1 (s : State) : Fetched :=
  match s.sampleCause with
  | .aas =>
    match s.sampleDir with
    | .receiver     => .withCount receiverSelector s.cnt
    | .transmitter  => .withCount transmitterSelector s.cnt
    | .unrecognised => .selector dirBadSelector
  | .undef => .selector (passSelector .undef)
  | .nack  => .selector (passSelector .nack)
  | .rrdy  => .selector (passSelector .rrdy)
  | .xrdy  => .selector (passSelector .xrdy)
  | .scd   => .selector (passSelector .scd)

/-- Dispatch 2: the selector from the class of the deciding sample (R50, R90); under `PerArm` a sample that does not match
its comparison forms none (R91). -/
def State.fetchDispatch2 (s : State) : Fetched :=
  if s.dispatch2Fires s.sampleCause = true then .selector (dispatch2Selector s.sampleCause) else .phaseStep

/-- The fetch. RESET is taken in any phase, CONFIGURE and INVOKE in IDLE (R43, R53; an event not admitted has no step, log
5). An addressed-phase arm runs over its wait and update phases with the counter its selector held (R49, log 11). -/
def State.fetch (s : State) : Fetched :=
  if s.event = some .reset then .selector (hostSelector .reset)
  else
    match s.phase with
    | .idle =>
      match s.event with
      | some e => .selector (hostSelector e)
      | none   => .phaseStep
    | .d1 => s.fetchDispatch1
    | .waitRx | .rxUpd => .withCount receiverSelector s.cnt
    | .waitTx | .txUpd => .withCount transmitterSelector s.cnt
    | .d2 => s.fetchDispatch2
    | .ack | .halted => .phaseStep

/-- The steps that form no selector: the group acknowledge (R73), a comparison of dispatch 2 that does not match (R91), and
at rest or halted nothing (R107, R125). The other phases always form one. -/
def State.ownStep (s : State) : State :=
  match s.phase with
  | .ack => s.ackReturn
  | .d2  => s.continueDispatch2
  | .idle | .d1 | .waitRx | .rxUpd | .waitTx | .txUpd | .halted => s

/-- All codes of `cause_in`, in rising order. -/
def causeCodes : List CauseCode := [0, 1, 2, 3, 4, 5, 6, 7]

/-- The lowest code whose class is `k` under a map, if it has one. -/
def codeOfClass (m : CauseMap) (k : CauseClass) : Option CauseCode :=
  causeCodes.find? (fun c => causeClassOf m c == k)

/-- The direction status that samples as `d` (R46). -/
def statusOfSample (txValue : BitVec 1) : DirSample → DirStatus
  | .receiver     => .bit (~~~txValue)
  | .transmitter  => .bit txValue
  | .unrecognised => .unrecognised

/-- The same state, with the next step's inputs replaced. -/
def State.offer (f : Inputs → Inputs) (s : State) : State := { s with script := f s.inputs :: s.script.tail }

/-- A host event offered to the next step. -/
def State.offerEvent (e : HostEvent) (s : State) : State := s.offer (fun x => { x with event := some e })

/-- No host event, and a cause code of class `k` at `cause_in`, for the next step; where the map has no code of that class
the default map takes its place, log 14. -/
def State.offerCause (k : CauseClass) (s : State) : State :=
  match codeOfClass s.params.causeMap k with
  | some c => s.offer (fun x => { x with event := none, causeIn := c })
  | none   =>
    ({ s with params := { s.params with causeMap := Config.defaultCauseMap } } : State).offer
      (fun x => { x with event := none, causeIn := classCode k })

/-- The next step is dispatch 1 with an addressed-as-slave cause and the direction sample `d`. -/
def State.offerAddressed (d : DirSample) (s : State) : State :=
  ((s.goto .d1).offerCause .aas).offer (fun x => { x with dirIn := statusOfSample s.params.dirTxValue d })

/-- The next step is dispatch 1 with an addressed-as-slave cause, the direction sample `d` and the counter `c`. -/
def State.offerArm (d : DirSample) (c : Count) (s : State) : State :=
  ({ s with cnt := some c } : State).offerAddressed d

/-- The next step is dispatch 1 with a cause of class `k`. -/
def State.offerPass (k : CauseClass) (s : State) : State := (s.goto .d1).offerCause k

/-- The next step is the comparison `i` of dispatch 2 with a sample of class `k`. -/
def State.offerCompared (i : Fin 5) (k : CauseClass) (s : State) : State :=
  let at2 : State := s.goto .d2
  match s.params.d2Sampling with
  | .single => at2.offerCause k
  | .perArm => ({ at2 with d2i := i } : State).offerCause k

/-- The state in which the next step runs the arm `i` (log 14): what its selector is formed from (R49, R50, R53) is put in
place, nothing else changes. `D2_NONE` has a selector under `Single` only (R97), so `D2_SAMPLING` is set for it. -/
def State.placeArm (s : State) : Instr → State
  | .reset       => s.offerEvent .reset
  | .configure   => (s.goto .idle).offerEvent .configure
  | .invoke      => (s.goto .idle).offerEvent .invoke
  | .rxC2        => s.offerArm .receiver 2
  | .rxC1        => s.offerArm .receiver 1
  | .rxCx c      => s.offerArm .receiver c
  | .txC0        => s.offerArm .transmitter 0
  | .txC1        => s.offerArm .transmitter 1
  | .txC2        => s.offerArm .transmitter 2
  | .txCx c      => s.offerArm .transmitter c
  | .dirBad      => s.offerAddressed .unrecognised
  | .d1PassUndef => s.offerPass .undef
  | .d1PassNack  => s.offerPass .nack
  | .d1PassRrdy  => s.offerPass .rrdy
  | .d1PassXrdy  => s.offerPass .xrdy
  | .d1PassScd   => s.offerPass .scd
  | .d2Undef     => s.offerCompared 0 .undef
  | .d2Scd       => s.offerCompared 1 .scd
  | .d2Xrdy      => s.offerCompared 2 .xrdy
  | .d2Rrdy      => s.offerCompared 3 .rrdy
  | .d2Nack      => s.offerCompared 4 .nack
  | .d2None      =>
    (({ s with params := { s.params with d2Sampling := .single } } : State).goto .d2).offerCause .aas

end Sys2Proof.Machine
end

