-- ==== Sys2Proof/Machine/Step.lean ====
section
/-! DEFINITION. One step of the block (00_scope.md rule R10): fetch, decode, run, and take the step's inputs out of the
script. -/

namespace Sys2Proof.Machine

/-- One step. A reserved selector is refused (R52), and so is a selector whose counter holds no value (U7). -/
def step (s : State) : Host.Outcome State Fault Refusal :=
  match s.fetch with
  | .selector w =>
    match decode w with
    | .ok i    => mapNext State.consume (exec i s)
    | .error _ => .refused .reservedSelector
  | .phaseStep => .next s.ownStep.consume
  | .noCount   => .refused .cntHasNoValue

/-- The state with the arm of the table word `w` made the one the next step runs, log 14. The block forms no reserved
selector (R52), so for a word that decodes to no arm nothing can be put in place. -/
def State.withFetchWord (s : State) (nbits w : Nat) : State :=
  match decodeTableWord nbits w with
  | some i => s.placeArm i
  | none   => s

end Sys2Proof.Machine
end

