-- ==== Sys2Proof/Machine/Stimulus.lean ====
section
/-! DEFINITION. The stimulus commands of 30_encoding.md rules R56 and R57: each is the list of the inputs of the steps it
takes. -/

namespace Sys2Proof.Machine

/-- `<cause>`: a class name, or a raw code read through `CAUSE_MAP` (R56). -/
inductive CauseName where
  | named (k : CauseClass)
  | raw (c : CauseCode)
deriving DecidableEq, Repr

/-- `INVOKE c1=… [dir=…] [wait=…] [drr=…] c2=…[,…]` (R56). `dir` is `none` where it is not given; `wait = none` is
`wait=inf`; `c2` and `c2Rest` are the dispatch-2 samples in order. -/
structure InvokeCommand where
  c1     : CauseName
  dir    : Option DirSample := none
  wait   : Option Nat := some 0
  drr    : Byte := 0x00
  c2     : CauseName
  c2Rest : List CauseName := []
deriving DecidableEq, Repr

/-- The causes `k` of `FAULT_CAUSE k`: "a cause the design treats as fatal" (R57). -/
inductive FatalCause where
  | undef | xrdy | rrdy | nack
deriving DecidableEq, Repr

/-- The class of a fatal cause (R57). -/
def FatalCause.toClass : FatalCause → CauseClass
  | .undef => .undef
  | .xrdy  => .xrdy
  | .rrdy  => .rrdy
  | .nack  => .nack

/-- One line of a stimulus script: the commands of R56 and the pseudo-operations of R57. -/
inductive Stimulus where
  | reset
  | configure
  | invoke (c : InvokeCommand)
  | mwrite (b : Byte)
  | mread
  | mreadEcho (b : Byte)
  | stop
  | faultCause (k : FatalCause)
deriving DecidableEq, Repr

/-- The expansion of a pseudo-operation (R57); a command of R56 is its own. -/
def Stimulus.expand : Stimulus → Stimulus
  | .reset        => .reset
  | .configure    => .configure
  | .invoke c     => .invoke c
  | .mwrite b     => .invoke { c1 := .named .aas, dir := some .receiver, drr := b, c2 := .named .aas }
  | .mread        => .invoke { c1 := .named .aas, dir := some .transmitter, c2 := .named .aas }
  | .mreadEcho b  => .invoke { c1 := .named .aas, dir := some .transmitter, drr := b, c2 := .named .aas }
  | .stop         => .invoke { c1 := .named .scd, c2 := .named .scd }
  | .faultCause k => .invoke { c1 := .named k.toClass, c2 := .named k.toClass }

/-- The code a cause name stands for: a class name is the lowest code of that class, and names nothing under a map without
one, log 25. -/
def CauseName.code (m : CauseMap) : CauseName → Option CauseCode
  | .named k => codeOfClass m k
  | .raw c   => some c

/-- Inputs with no event and no ready condition: a cause code, a received byte, a draw. -/
def quietInputs (c : CauseCode) (drr any8 : Byte) : Inputs :=
  { event := none, causeIn := c, dirIn := .bit 0, rrdyIn := 0, xrdyIn := 0, drrIn := drr, any8 := any8 }

/-- The inputs of the step that takes a host event. -/
def eventInputs (e : HostEvent) (any8 : Byte) : Inputs := { quietInputs 0 0 any8 with event := some e }

/-- The first five of a list of samples, the last one repeated where it is shorter (R56). -/
def firstFive (first : CauseCode) (rest : List CauseCode) : List CauseCode :=
  (first :: rest ++ List.replicate 4 (rest.getLastD first)).take 5

/-- The dispatch-2 samples of an invocation: the first under `Single`, five under `PerArm` (R56). -/
def dispatch2Samples (sampling : D2Sampling) (first : CauseCode) (rest : List CauseCode) : List CauseCode :=
  match sampling with
  | .single => [first]
  | .perArm => firstFive first rest

/-- Whether dispatch 1 of an invocation with the first sample `c1` selects an addressed phase (R67). -/
def InvokeCommand.addressed (m : CauseMap) (cmd : InvokeCommand) (c1 : CauseCode) : Bool :=
  causeClassOf m c1 == .aas && cmd.dir.any (· != .unrecognised)

/-- The inputs of the wait and update steps of an addressed phase: `n` polls that find no ready condition, one that does,
and the update (R56). Of an endless wait this lists the first poll; that no later poll finds the condition is said by
`streamFrom`. -/
def addressedInputs (c1 : CauseCode) (wait : Option Nat) (drr any8 : Byte) : List Inputs :=
  match wait with
  | some n =>
    List.replicate n (quietInputs c1 drr any8) ++
      [{ quietInputs c1 drr any8 with rrdyIn := 1, xrdyIn := 1 }, quietInputs c1 drr any8]
  | none => [quietInputs c1 drr any8]

/-- The inputs of one invocation with the codes resolved: entry, dispatch 1, the addressed phase where dispatch 1 selects
one, dispatch 2, acknowledge (R67). -/
def invocationInputs (p : Params) (cmd : InvokeCommand) (any8 : Byte) (c1 c2 : CauseCode) (c2Rest : List CauseCode) :
    List Inputs :=
  let dir := statusOfSample p.dirTxValue (cmd.dir.getD .unrecognised)
  let addressed := cmd.addressed p.causeMap c1
  [eventInputs .invoke any8, { quietInputs c1 cmd.drr any8 with dirIn := dir }] ++
    (if addressed then addressedInputs c1 cmd.wait cmd.drr any8 else []) ++
    (if addressed && cmd.wait.isNone then []
     else
      (dispatch2Samples p.d2Sampling c2 c2Rest).map (fun c => quietInputs c cmd.drr any8) ++
        [quietInputs c2 cmd.drr any8])

/-- The codes of a list of cause names, if every name has one. -/
def causeNameCodes (m : CauseMap) : List CauseName → Option (List CauseCode)
  | []      => some []
  | x :: xs =>
    match x.code m, causeNameCodes m xs with
    | some c, some cs => some (c :: cs)
    | _, _            => none

/-- The inputs of an `INVOKE` line, if its class names all have a code and the direction is given where `c1` is of class
`AAS`, which requires it (R56). -/
def InvokeCommand.inputs (p : Params) (any8 : Byte) (cmd : InvokeCommand) : Option (List Inputs) :=
  match cmd.c1.code p.causeMap, cmd.c2.code p.causeMap, causeNameCodes p.causeMap cmd.c2Rest with
  | some c1, some c2, some rest =>
    if causeClassOf p.causeMap c1 = .aas ∧ cmd.dir = none then none
    else some (invocationInputs p cmd any8 c1 c2 rest)
  | _, _, _ => none

/-- The inputs of the steps a stimulus line takes, under the parameters `p`, with the byte `any8` for its draws
(R56, R57; log 30). -/
def Stimulus.inputs (p : Params) (any8 : Byte) (line : Stimulus) : Option (List Inputs) :=
  match line.expand with
  | .reset     => some [eventInputs .reset any8]
  | .configure => some [eventInputs .configure any8]
  | .invoke c  => c.inputs p any8
  | _          => none

/-- Whether an `INVOKE` line ends in a wait that never ends: `wait=inf` with an addressed phase (R56). -/
def InvokeCommand.endless (m : CauseMap) (cmd : InvokeCommand) : Bool :=
  cmd.wait.isNone && (cmd.c1.code m).any (cmd.addressed m)

/-- Whether the ready conditions are held at 0 after a line, given whether they were before it: an endless wait holds them
(R56, "it never samples 1"), and only RESET ends it (R118). -/
def Stimulus.holds (m : CauseMap) (held : Bool) (line : Stimulus) : Bool :=
  match line.expand with
  | .reset    => false
  | .invoke c => held || c.endless m
  | .configure | .mwrite _ | .mread | .mreadEcho _ | .stop | .faultCause _ => held

/-- The host event a line offers (R56). -/
def Stimulus.event : Stimulus → HostEvent
  | .reset     => .reset
  | .configure => .configure
  | .invoke _ | .mwrite _ | .mread | .mreadEcho _ | .stop | .faultCause _ => .invoke

/-- The inputs of a run: the records of its steps, and whether neither ready condition is observed after them. -/
structure InputStream where
  script       : List Inputs
  noReadyAfter : Bool
deriving DecidableEq, Repr

/-- The inputs of the lines that follow, where `held` says that an endless wait still holds the ready conditions at 0. While
it does, a line is the one step that offers its host event, which has no step unless it is RESET (R61, R68; log 25). -/
def streamFrom (p : Params) (any8 : Byte) : Bool → List Stimulus → Option InputStream
  | held, []      => some ⟨[], held⟩
  | held, x :: xs =>
    match x.inputs p any8, streamFrom p any8 (x.holds p.causeMap held) xs with
    | some a, some b =>
      some ⟨(if held then [eventInputs x.event any8] else a) ++ b.script, b.noReadyAfter⟩
    | _, _           => none

/-- The inputs of a whole script, in order (R56). DESIGN CHOICE: R56 gives a line no draw, and the one byte `any8` serves for
the draws of every RESET, CONFIGURE and D2_SCD of the script, log 30. -/
def scriptInputs (p : Params) (any8 : Byte) (lines : List Stimulus) : Option InputStream := streamFrom p any8 false lines

/-- The state whose coming steps take these inputs. -/
def State.load (stream : InputStream) (s : State) : State :=
  { s with script := stream.script, noReadyAfter := stream.noReadyAfter }

end Sys2Proof.Machine
end

