-- ==== Sys2Proof/Safety.lean ====
section
/-! DEFINITION. What counts as a safe run, in the terms the statements use: the ends of a run (70_reset_and_hazards.md
rule R125), the invariant of the state, and the agreement of the output trace with the state. -/

namespace Sys2Proof.Machine

/-- At rest: in IDLE with no host event offered (R125). -/
def State.AtRest (s : State) : Prop := s.phase = .idle ∧ s.event = none

/-- Faulted (R125). -/
def State.Faulted (s : State) : Prop := s.phase = .halted

/-- The environment does not offer RESET to this step. -/
def State.NotReset (s : State) : Prop := s.event ≠ some .reset

/-- No RESET among the inputs of the next `n` steps. -/
def State.NoResetFor (n : Nat) (s : State) : Prop := ∀ k < n, (s.inputsAt k).event ≠ some .reset

/-- No host event among the inputs of the next `n` steps. -/
def State.NoEventFor (n : Nat) (s : State) : Prop := ∀ k < n, (s.inputsAt k).event = none

/-- In one of the two unbounded busy-waits (R118, R125). -/
def State.Waiting (s : State) : Prop := s.phase = .waitRx ∨ s.phase = .waitTx

/-- The last value written to the count register in a trace. -/
def lastCount (trace : List Event) : Option Count :=
  trace.foldl (fun last e => match e with
    | .cntWrite v => some v
    | .dxrWrite _ | .cfgWrite _ | .groupAck _ | .halt _ => last) none

/-- The last configuration image written in a trace. -/
def lastImage (trace : List Event) : Option CfgImage :=
  trace.foldl (fun last e => match e with
    | .cfgWrite image => some image
    | .dxrWrite _ | .cntWrite _ | .groupAck _ | .halt _ => last) none

/-- The last byte written to the data-transmit register since the last configuration, after which it is unspecified (R19,
R62). -/
def lastByte (trace : List Event) : Option Byte :=
  trace.foldl (fun last e => match e with
    | .dxrWrite v => some v
    | .cfgWrite _ => none
    | .cntWrite _ | .groupAck _ | .halt _ => last) none

/-- The fault kinds of the halts in a trace, in order. -/
def halts (trace : List Event) : List FaultKind :=
  trace.filterMap (fun e => match e with
    | .halt k => some k
    | .dxrWrite _ | .cntWrite _ | .cfgWrite _ | .groupAck _ => none)

/-- The bytes written to the data-transmit register in a trace, in order. -/
def bytesWritten (trace : List Event) : List Byte :=
  trace.filterMap (fun e => match e with
    | .dxrWrite v => some v
    | .cntWrite _ | .cfgWrite _ | .groupAck _ | .halt _ => none)

/-- The group acknowledges in a trace, in order. -/
def acks (trace : List Event) : List (BitVec 16) :=
  trace.filterMap (fun e => match e with
    | .groupAck g => some g
    | .dxrWrite _ | .cntWrite _ | .cfgWrite _ | .halt _ => none)

/-- The invariant of the block. -/
structure State.Inv (s : State) : Prop where
  /-- A fault is recorded exactly in HALTED (R21). -/
  halted : s.phase = .halted ↔ s.fault ≠ none
  /-- The sample index is 0 outside D2 and under `Single` (R16). -/
  index : s.d2i ≠ 0 → s.phase = .d2 ∧ s.params.d2Sampling = .perArm
  /-- The counter holds a value exactly from the first CONFIGURE on (R14, R17). -/
  counted : s.configured = true ↔ s.cnt ≠ none
  /-- The image is the one CONFIGURE writes from the first CONFIGURE on, and none before (R20, R66). -/
  image : s.cfg = if s.configured = true then some (configImage s.params) else none
  /-- No invocation runs before the first CONFIGURE (R68). -/
  entered : s.phase.inInvocation = true → s.configured = true
  /-- The counter is at most 3 (R76). -/
  range : ∀ c, s.cnt = some c → c.toNat ≤ 3
  /-- The role follows the direction dispatch 1 sampled (R18, R71). -/
  receiving : s.phase = .waitRx ∨ s.phase = .rxUpd → s.role = .addressedRx
  transmitting : s.phase = .waitTx ∨ s.phase = .txUpd → s.role = .addressedTx
  /-- Nothing has been addressed before the first CONFIGURE (R30, R68). -/
  unaddressed : s.configured = false → s.role = .idleUnaddressed

/-- The trace tells the state: the last writes of it are what the registers hold, and its halts are the fault record (R19,
R21, R22). -/
structure State.TraceAgrees (s : State) : Prop where
  count : lastCount s.trace = s.cnt
  image : lastImage s.trace = s.cfg
  byte  : ∀ v, lastByte s.trace = some v → s.dxr = v
  fault : halts s.trace = s.fault.toList

end Sys2Proof.Machine
end

