-- ==== Sys2Proof/Certificates/Slice0/Obligations.lean ====
section
/-! DEFINITION. The statements about the model, for the provers. Where a statement names an explicit next state, every
field it does not change is unchanged: that is the frame of the arm. -/

open Sys2Proof Sys2Proof.Machine

/-! ### Encodings -/

/-- R48, R51: decoding the selector of a well-formed arm gives the arm back, for every counter its row admits. -/
def Obligations.ArmSelectorsDecodeToTheArm : Prop :=
  ∀ i : Instr, i.wellFormed = true → decode (encode i) = .ok i

/-- R48, R51: every selector the decoder accepts is the selector of the well-formed arm it gives. -/
def Obligations.AcceptedSelectorsEncodeBack : Prop :=
  ∀ (w : Selector) (i : Instr), decode w = .ok i → i.wellFormed = true ∧ encode i = w

/-- R52: the selectors the decoder refuses are exactly the reserved ones, and the block never forms one. -/
def Obligations.ReservedSelectorsRefusedAndNeverFormed : Prop :=
  (∀ w : Selector, (∃ r, decode w = .error r) ↔ ReservedSelector w) ∧
  ∀ (s : State) (w : Selector), s.fetch = .selector w → ¬ReservedSelector w

/-- R48, R51, R59: words written out from the spec's selector fields decode to their arms, and reserved words to none. -/
def Obligations.WrittenOutSelectorsDecode : Prop :=
  decode 0b000010000000000000000000 = .ok .configure ∧
  decode 0b011110000000000000000010 = .ok .rxC2 ∧
  decode 0b011110000000000000000011 = .ok (.rxCx 3) ∧
  decode 0b011110100000000000000000 = .ok .txC0 ∧
  decode 0b011110100000000000000011 = .ok (.txCx 3) ∧
  decode 0b011111000000000000000000 = .ok .dirBad ∧
  decode 0b011100000000000000000000 = .ok .d1PassScd ∧
  decode 0b101100000000000000000000 = .ok .d2Scd ∧
  decode 0b110000000000000000000000 = .error .reservedStage ∧
  decode 0b011110010000000000000010 = .error .reservedBit

/-- R58: an output event is the 24-bit word of its kind, four zero bits and its payload. -/
def Obligations.OutputEventWordsHaveKindAndPayload : Prop :=
  (∀ e : Event, e.word.extractLsb' 16 4 = 0) ∧
  (∀ v : Byte, (Event.dxrWrite v).word.extractLsb' 20 4 = 1 ∧
    (Event.dxrWrite v).word.extractLsb' 0 16 = v.zeroExtend 16) ∧
  (∀ v : Count, (Event.cntWrite v).word.extractLsb' 20 4 = 2 ∧ (Event.cntWrite v).word.extractLsb' 0 16 = v) ∧
  (∀ image : CfgImage, (Event.cfgWrite image).word.extractLsb' 20 4 = 3 ∧
    (Event.cfgWrite image).word.extractLsb' 0 16 = 0) ∧
  (∀ g : BitVec 16, (Event.groupAck g).word.extractLsb' 20 4 = 4 ∧ (Event.groupAck g).word.extractLsb' 0 16 = g) ∧
  (∀ k : FaultKind, (Event.halt k).word.extractLsb' 20 4 = 5 ∧
    (Event.halt k).word.extractLsb' 0 16 = k.code.zeroExtend 16)

/-- R16, R18, R45, R53, R99: the codes of the phases, roles, cause classes, commands and faults; no class has the code
0b001 or 0b011. -/
def Obligations.CodesAreTheSpecs : Prop :=
  [Phase.idle, .d1, .waitRx, .rxUpd, .waitTx, .txUpd, .d2, .ack, .halted].map Phase.code = [0, 1, 2, 3, 4, 5, 6, 7, 8] ∧
  [Role.idleUnaddressed, .addressedRx, .addressedTx].map Role.code = [0, 1, 2] ∧
  [CauseClass.undef, .nack, .rrdy, .xrdy, .scd, .aas].map classCode = [0b000, 0b010, 0b100, 0b101, 0b110, 0b111] ∧
  (∀ k : CauseClass, classCode k ≠ 0b001 ∧ classCode k ≠ 0b011) ∧
  [HostEvent.reset, .configure, .invoke].map commandCode = [0b000, 0b001, 0b010] ∧
  [none, some FaultKind.unreachableInterruptCause, some .unexpectedDirectionState, some .protocolViolationTxReady,
    some .protocolViolationRxReady, some .notAcknowledged, some .unconfiguredInvocation].map faultCode =
    [0, 1, 2, 3, 4, 5, 6]

/-- R44, R72: the classifier under the default map, which the spec takes from general knowledge (log 15). -/
def Obligations.DefaultMapClassifiesTheEightCodes : Prop :=
  ∀ s : State, s.params.causeMap = Config.defaultCauseMap →
    [0b111, 0b110, 0b101, 0b100, 0b010, 0b000, 0b001, 0b011].map s.classify =
      [CauseClass.aas, .scd, .xrdy, .rrdy, .nack, .undef, .undef, .undef]

/-- R46: the direction bit samples as Transmitter exactly at `DIR_TX_VALUE`, whose default is 1 (log 15); no bit samples as
Unrecognised. -/
def Obligations.DirectionBitSamplesByItsTransmitterValue : Prop :=
  (∀ tx b : BitVec 1, dirSampleOf tx (.bit b) = if b = tx then .transmitter else .receiver) ∧
  dirSampleOf 1 (.bit 1) = .transmitter ∧ dirSampleOf 1 (.bit 0) = .receiver ∧
  dirSampleOf 0 (.bit 1) = .receiver ∧ dirSampleOf 0 (.bit 0) = .transmitter ∧
  (∀ tx b : BitVec 1, dirSampleOf tx (.bit b) ≠ .unrecognised) ∧
  (∀ tx : BitVec 1, dirSampleOf tx .unrecognised = .unrecognised) ∧ Params.default.dirTxValue = 1

/-! ### The step -/

/-- R10, R49, R50: when the selector the block forms decodes to an arm, the step is that arm, and then the step's inputs are
taken out of the script. -/
def Obligations.StepRunsTheDecodedArm : Prop :=
  ∀ (s : State) (w : Selector) (i : Instr), s.fetch = .selector w → decode w = .ok i →
    step s = mapNext State.consume (exec i s)

/-- The model's own placing of an arm (log 14): after `withFetchWord` with the selector of a well-formed arm, the very next
step fetches that selector and runs that arm. -/
def Obligations.PlacedSelectorIsTheNextArmRun : Prop :=
  ∀ (s : State) (i : Instr), i.wellFormed = true →
    (s.withFetchWord 24 (encode i).toNat).fetch = .selector (encode i) ∧
    step (s.withFetchWord 24 (encode i).toNat) =
      mapNext State.consume (exec i (s.withFetchWord 24 (encode i).toNat))

/-- The model's choice of log 5 (DESIGN CHOICE): a CONFIGURE or INVOKE offered outside IDLE, where the spec gives it no step
(R53, R61, R68), is ignored, and the block does what it does when nothing is offered. -/
def Obligations.HostEventsOutsideIdleHaveNoStep : Prop :=
  ∀ (s : State) (e : HostEvent), s.phase ≠ .idle → e ≠ .reset →
    step (s.offerEvent e) = step (s.offer (fun x => { x with event := none }))

/-- R23: each input port is read by the rules the port table names for it and by no other step: replacing what stands at
the port at any other step changes nothing. -/
def Obligations.PortsAreSampledOnlyByTheirRules : Prop :=
  ∀ s : State,
    (∀ c : CauseCode, s.phase ≠ .d1 → s.phase ≠ .d2 → step (s.offer (fun x => { x with causeIn := c })) = step s) ∧
    (∀ d : DirStatus, ¬(s.phase = .d1 ∧ s.sampleCause = .aas) →
      step (s.offer (fun x => { x with dirIn := d })) = step s) ∧
    (∀ r : BitVec 1, s.phase ≠ .waitRx → step (s.offer (fun x => { x with rrdyIn := r })) = step s) ∧
    (∀ r : BitVec 1, s.phase ≠ .waitTx → step (s.offer (fun x => { x with xrdyIn := r })) = step s) ∧
    (∀ b : Byte, ¬(s.phase = .rxUpd ∧ s.cnt = some 2) → ¬(s.phase = .txUpd ∧ s.cnt = some 1) →
      step (s.offer (fun x => { x with drrIn := b })) = step s)

/-- R19, R62: the draw `any8` reaches the transmit register alone: two steps that differ in the draw only leave the same
state but for `dxr`. -/
def Obligations.TheDrawReachesOnlyTheTransmitRegister : Prop :=
  ∀ (s t : State) (b : Byte), step s = .next t →
    ∃ v : Byte, step (s.offer (fun x => { x with any8 := b })) = .next { t with dxr := v }

/-! ### RESET and CONFIGURE -/

/-- R30: the reset state. -/
def Obligations.ResetStateHoldsTheResetValues : Prop :=
  State.reset.phase = .idle ∧ State.reset.d2i = 0 ∧ State.reset.configured = false ∧ State.reset.cnt = none ∧
  State.reset.role = .idleUnaddressed ∧ State.reset.cfg = none ∧ State.reset.fault = none ∧ State.reset.trace = []

/-- R30, R116: RESET has a step in every phase and sets every field of the block to its reset value, `dxr` to the draw
`any8`, and clears the trace. That the parameters and what the environment will offer stay is the choice of log 21, and
that an offered RESET is the whole step that of log 26. -/
def Obligations.ResetSetsEveryFieldInEveryPhase : Prop :=
  encode .reset = 0x000000 ∧
  ∀ s : State,
    exec .reset s = .next { s with
      phase := .idle, d2i := 0, configured := false, cnt := none, role := .idleUnaddressed, dxr := s.inputs.any8,
      cfg := none, fault := none, trace := [] } ∧
    (s.event = some .reset → step s = mapNext State.consume (exec .reset s))

/-- R60, R62, R64: CONFIGURE in IDLE writes the image from the parameters alone, primes the counter to 2, sets `configured`,
the role and `dxr`, stays in IDLE, and neither faults nor halts. -/
def Obligations.ConfigureWritesTheImageAndPrimesTheCounter : Prop :=
  encode .configure = 0x080000 ∧
  ∀ s : State, s.phase = .idle →
    let image : CfgImage :=
      { psc := s.params.clkPsc, clkl := s.params.clkLow, clkh := s.params.clkHigh, oar := s.params.ownAddr,
        ier := ierField s.params.ier, mst := 0, trx := 0, xa := 0, fdf := s.params.fdf, bc := 8, irs := 1,
        free := s.params.free, fifo := 0 }
    exec .configure s = .next { s with
      cfg := some image, cnt := some 2, configured := true, role := .idleUnaddressed, dxr := s.inputs.any8,
      trace := s.trace ++ [.cfgWrite image, .cntWrite 2] }

/-- R45: the interrupt-enable field has one bit per cause class, at the index of the class code. -/
def Obligations.InterruptEnablesStandAtTheirClassCodes : Prop :=
  ∀ (p : Params) (k : CauseClass), (configImage p).ier.getLsbD (classCode k).toNat = ierMember p.ier k

/-- R63: two CONFIGUREs with no step between them leave the same image, counter, flag and role as one; `dxr` is the draw
of each. -/
def Obligations.ConfiguringTwiceIsConfiguringOnce : Prop :=
  ∀ (s : State) (x y : Inputs) (rest : List Inputs), s.phase = .idle → s.script = x :: y :: rest →
    x.event = some .configure → y.event = some .configure →
    ∃ t u : State, step s = .next t ∧ step t = .next u ∧ u.cfg = t.cfg ∧ u.cnt = t.cnt ∧
      u.configured = t.configured ∧ u.role = t.role ∧ t.dxr = x.any8 ∧ u.dxr = y.any8

/-! ### Entry, dispatch 1, acknowledge -/

/-- R68: INVOKE in IDLE goes to D1 when the block is configured, and otherwise halts with UnconfiguredInvocation and no
acknowledge; in any other phase, HALTED included, it has no step, which the model renders as the unchanged state (log 4,
DESIGN CHOICE). -/
def Obligations.InvokeEntersDispatchOneOrFaultsUnconfigured : Prop :=
  encode .invoke = 0x100000 ∧
  ∀ s : State,
    (s.phase = .idle → s.configured = true → exec .invoke s = .next { s with phase := .d1 }) ∧
    (s.phase = .idle → s.configured = false →
      exec .invoke s = .next { s with
        phase := .halted, d2i := 0, fault := some .unconfiguredInvocation,
        trace := s.trace ++ [.halt .unconfiguredInvocation] }) ∧
    (s.phase ≠ .idle → exec .invoke s = .next s)

/-- R70: dispatch 1 with a cause that is not addressed-as-slave only goes to D2. -/
def Obligations.DispatchOnePassesOtherCauses : Prop :=
  (∀ k : CauseClass, passSelector k = 0x400000 ||| ((classCode k).zeroExtend 24 <<< 19)) ∧
  ∀ (s : State) (i : Instr) (k : CauseClass),
    (i, k) ∈ [(Instr.d1PassUndef, CauseClass.undef), (.d1PassNack, .nack), (.d1PassRrdy, .rrdy),
      (.d1PassXrdy, .xrdy), (.d1PassScd, .scd)] →
    encode i = passSelector k ∧
    (s.phase = .d1 → exec i s = .next { s with phase := .d2 }) ∧
    (s.phase = .d1 → s.NotReset → s.sampleCause = k → step s = mapNext State.consume (exec i s))

/-- R71: DIR_BAD in D1 takes the fatal path with UnexpectedDirectionState and leaves the role. -/
def Obligations.UnrecognisedDirectionHalts : Prop :=
  encode .dirBad = 0x7C0000 ∧
  ∀ s : State, s.phase = .d1 →
    exec .dirBad s = .next { s with
      phase := .halted, d2i := 0, fault := some .unexpectedDirectionState,
      trace := s.trace ++ [.halt .unexpectedDirectionState, .groupAck s.params.ackGroup] }

/-- R69, R71: dispatch 1 with an addressed-as-slave cause follows the direction sample, and writes the role only. -/
def Obligations.AddressedDispatchFollowsTheDirection : Prop :=
  ∀ (s : State) (c : Count), s.phase = .d1 → s.NotReset → s.sampleCause = .aas → s.cnt = some c →
    (s.sampleDir = .receiver → s.fetch = .selector (0x780000 ||| c.zeroExtend 24) ∧
      step s = .next ({ s with role := .addressedRx, phase := .waitRx } : State).consume) ∧
    (s.sampleDir = .transmitter → s.fetch = .selector (0x7A0000 ||| c.zeroExtend 24) ∧
      step s = .next ({ s with role := .addressedTx, phase := .waitTx } : State).consume) ∧
    (s.sampleDir = .unrecognised → s.fetch = .selector 0x7C0000 ∧
      step s = .next ({ s with
        phase := .halted, d2i := 0, fault := some .unexpectedDirectionState,
        trace := s.trace ++ [.halt .unexpectedDirectionState, .groupAck s.params.ackGroup] } : State).consume)

/-- R73: in ACK the step emits the group acknowledge and returns to IDLE. -/
def Obligations.AcknowledgeReturnsToIdle : Prop :=
  ∀ s : State, s.phase = .ack → s.NotReset →
    step s = .next ({ s with
      phase := .idle, trace := s.trace ++ [.groupAck s.params.ackGroup] } : State).consume

/-! ### The receiver -/

/-- R71, R77: each receiver arm, selected by its counter, sets the role and goes to WAIT_RX in D1, and in WAIT_RX goes to
RX_UPD on the ready condition and holds without it, whatever the counter. -/
def Obligations.ReceiverArmsDispatchAndWait : Prop :=
  ∀ (s : State) (i : Instr) (c : Count), i.wellFormed = true →
    (i, c) ∈ [(Instr.rxC2, (2 : Count)), (.rxC1, 1), (.rxCx c, c)] → s.cnt = some c →
    (s.phase = .d1 → exec i s = .next { s with role := .addressedRx, phase := .waitRx }) ∧
    (s.phase = .waitRx → s.sampleRrdy = 1 → exec i s = .next { s with phase := .rxUpd }) ∧
    (s.phase = .waitRx → s.sampleRrdy = 0 → exec i s = .next s) ∧
    (s.phase = .waitRx → s.NotReset → step s = mapNext State.consume (exec i s))

/-- R79: RX_C2 in RX_UPD echoes the received byte and takes the counter through 1 to 0. -/
def Obligations.RxC2EchoesAndCountsToZero : Prop :=
  encode .rxC2 = 0x780002 ∧
  ∀ s : State, s.phase = .rxUpd → s.cnt = some 2 →
    exec .rxC2 s = .next { s with
      dxr := s.inputs.drrIn, cnt := some 0, phase := .d2,
      trace := s.trace ++ [.dxrWrite s.inputs.drrIn, .cntWrite 1, .cntWrite 0] }

/-- R80: RX_C1 in RX_UPD takes the counter to 0 and reads no data. -/
def Obligations.RxC1CountsToZero : Prop :=
  encode .rxC1 = 0x780001 ∧
  ∀ s : State, s.phase = .rxUpd → s.cnt = some 1 →
    exec .rxC1 s = .next { s with cnt := some 0, phase := .d2, trace := s.trace ++ [.cntWrite 0] }

/-- R81: RX_CX in RX_UPD, with any counter but 1 and 2, writes nothing. -/
def Obligations.RxCxWritesNothing : Prop :=
  ∀ c : Count, c ≠ 1 → c ≠ 2 →
    encode (.rxCx c) = 0x780000 ||| c.zeroExtend 24 ∧ decode (0x780000 ||| c.zeroExtend 24) = .ok (.rxCx c) ∧
    ∀ s : State, s.phase = .rxUpd → s.cnt = some c → exec (.rxCx c) s = .next { s with phase := .d2 }

/-- R78, R120: the step in RX_UPD runs two tests in order, the second on the counter the first one left. -/
def Obligations.ReceiverUpdateTestsTheCounterTwice : Prop :=
  ∀ (s : State) (c : Count), s.phase = .rxUpd → s.NotReset → s.cnt = some c →
    let first : State := if s.cnt = some 2 then
      { s with dxr := s.inputs.drrIn, cnt := some 1,
               trace := s.trace ++ [.dxrWrite s.inputs.drrIn, .cntWrite 1] } else s
    let second : State := if first.cnt = some 1 then
      { first with cnt := some 0, trace := first.trace ++ [.cntWrite 0] } else first
    step s = .next ({ second with phase := .d2 } : State).consume

/-! ### The transmitter -/

/-- R71, R83: each transmitter arm, selected by its counter, sets the role and goes to WAIT_TX in D1, and in WAIT_TX goes to
TX_UPD on the ready condition and holds without it. -/
def Obligations.TransmitterArmsDispatchAndWait : Prop :=
  ∀ (s : State) (i : Instr) (c : Count), i.wellFormed = true →
    (i, c) ∈ [(Instr.txC0, (0 : Count)), (.txC1, 1), (.txC2, 2), (.txCx c, c)] → s.cnt = some c →
    (s.phase = .d1 → exec i s = .next { s with role := .addressedTx, phase := .waitTx }) ∧
    (s.phase = .waitTx → s.sampleXrdy = 1 → exec i s = .next { s with phase := .txUpd }) ∧
    (s.phase = .waitTx → s.sampleXrdy = 0 → exec i s = .next s) ∧
    (s.phase = .waitTx → s.NotReset → step s = mapNext State.consume (exec i s))

/-- R85: TX_C0 in TX_UPD takes the counter to 1 and writes no data. -/
def Obligations.TxC0AlignsTheCounter : Prop :=
  encode .txC0 = 0x7A0000 ∧
  ∀ s : State, s.phase = .txUpd → s.cnt = some 0 →
    exec .txC0 s = .next { s with cnt := some 1, phase := .d2, trace := s.trace ++ [.cntWrite 1] }

/-- R86: TX_C1 in TX_UPD writes the receive register back and takes the counter to 2. -/
def Obligations.TxC1EchoesTheReceiveRegister : Prop :=
  encode .txC1 = 0x7A0001 ∧
  ∀ s : State, s.phase = .txUpd → s.cnt = some 1 →
    exec .txC1 s = .next { s with
      dxr := s.inputs.drrIn, cnt := some 2, phase := .d2,
      trace := s.trace ++ [.dxrWrite s.inputs.drrIn, .cntWrite 2] }

/-- R87: TX_C2 in TX_UPD writes constant A and takes the counter to 3. -/
def Obligations.TxC2WritesConstantA : Prop :=
  encode .txC2 = 0x7A0002 ∧
  ∀ s : State, s.phase = .txUpd → s.cnt = some 2 →
    exec .txC2 s = .next { s with
      dxr := 0x55, cnt := some 3, phase := .d2, trace := s.trace ++ [.dxrWrite 0x55, .cntWrite 3] }

/-- R88: TX_CX in TX_UPD, with any counter but 0, 1 and 2, writes constant B and wraps the counter to 2. -/
def Obligations.TxCxWritesConstantBAndWraps : Prop :=
  ∀ c : Count, c ≠ 0 → c ≠ 1 → c ≠ 2 →
    encode (.txCx c) = 0x7A0000 ||| c.zeroExtend 24 ∧ decode (0x7A0000 ||| c.zeroExtend 24) = .ok (.txCx c) ∧
    ∀ s : State, s.phase = .txUpd → s.cnt = some c →
      exec (.txCx c) s = .next { s with
        dxr := 0xFF, cnt := some 2, phase := .d2, trace := s.trace ++ [.dxrWrite 0xFF, .cntWrite 2] }

/-- R84: the step in TX_UPD tests the counter once and runs exactly one arm. -/
def Obligations.TransmitterUpdateRunsOneArm : Prop :=
  ∀ (s : State) (c : Count), s.phase = .txUpd → s.NotReset → s.cnt = some c →
    step s = .next (State.consume
      (if c = 0 then { s with cnt := some 1, phase := .d2, trace := s.trace ++ [.cntWrite 1] }
       else if c = 1 then { s with
         dxr := s.inputs.drrIn, cnt := some 2, phase := .d2,
         trace := s.trace ++ [.dxrWrite s.inputs.drrIn, .cntWrite 2] }
       else if c = 2 then { s with
         dxr := 0x55, cnt := some 3, phase := .d2, trace := s.trace ++ [.dxrWrite 0x55, .cntWrite 3] }
       else { s with
         dxr := 0xFF, cnt := some 2, phase := .d2, trace := s.trace ++ [.dxrWrite 0xFF, .cntWrite 2] }))

/-! ### Dispatch 2 -/

/-- R92, R94, R95, R96: each fatal arm of dispatch 2, where its sample fires it, takes the fatal path with its kind. -/
def Obligations.FatalCausesHaltDispatchTwo : Prop :=
  ∀ (s : State) (i : Instr) (w : Selector) (class' : CauseClass) (k : FaultKind) (code : BitVec 3),
    (i, w, class', k, code) ∈
      [(Instr.d2Undef, (0x800000 : Selector), CauseClass.undef, FaultKind.unreachableInterruptCause, (1 : BitVec 3)),
       (.d2Xrdy, 0xA80000, .xrdy, .protocolViolationTxReady, 3),
       (.d2Rrdy, 0xA00000, .rrdy, .protocolViolationRxReady, 4),
       (.d2Nack, 0x900000, .nack, .notAcknowledged, 5)] →
    encode i = w ∧ k.code = code ∧
    (s.phase = .d2 → s.dispatch2Fires class' = true →
      exec i s = .next { s with
        phase := .halted, d2i := 0, fault := some k, trace := s.trace ++ [.halt k, .groupAck s.params.ackGroup] })

/-- R93: D2_SCD, where its sample fires it, re-runs the configurator; then dispatch 2 is done under `Single`, and goes on
with the next comparison under `PerArm`. -/
def Obligations.StopConditionReconfigures : Prop :=
  encode .d2Scd = 0xB00000 ∧
  ∀ s : State, s.phase = .d2 → s.dispatch2Fires .scd = true →
    let image := configImage s.params
    let rearmed : State := { s with
      cfg := some image, cnt := some 2, configured := true, role := .idleUnaddressed, dxr := s.inputs.any8,
      trace := s.trace ++ [.cfgWrite image, .cntWrite 2] }
    (s.params.d2Sampling = .single → exec .d2Scd s = .next { rearmed with phase := .ack }) ∧
    (s.params.d2Sampling = .perArm → exec .d2Scd s = .next { rearmed with d2i := 2 })

/-- R97: when dispatch 2 fires no arm it goes to ACK: under `Single` by D2_NONE, whose sample is addressed-as-slave; under
`PerArm` no selector is formed and the last comparison goes to ACK. -/
def Obligations.NothingFiresOnAddressedAsSlave : Prop :=
  encode .d2None = 0xB80000 ∧
  ∀ s : State, s.phase = .d2 → s.NotReset →
    (s.params.d2Sampling = .single → exec .d2None s = .next { s with phase := .ack }) ∧
    (s.params.d2Sampling = .single → s.sampleCause = .aas →
      s.fetch = .selector 0xB80000 ∧ step s = mapNext State.consume (exec .d2None s)) ∧
    (s.params.d2Sampling = .perArm → s.sampleCause ≠ comparedClass s.d2i →
      s.fetch = .phaseStep ∧
      step s = .next (State.consume
        (if s.d2i = 4 then { s with d2i := 0, phase := .ack } else { s with d2i := s.d2i + 1 })))

/-- R90: under `Single` dispatch 2 is one step, and the class of its one sample selects the arm. -/
def Obligations.SingleSamplingFiresTheArmOfItsClass : Prop :=
  ∀ s : State, s.phase = .d2 → s.NotReset → s.params.d2Sampling = .single →
    s.fetch = .selector (0x800000 ||| ((classCode s.sampleCause).zeroExtend 24 <<< 19)) ∧
    step s = mapNext State.consume (match s.sampleCause with
      | .undef => exec .d2Undef s
      | .scd   => exec .d2Scd s
      | .xrdy  => exec .d2Xrdy s
      | .rrdy  => exec .d2Rrdy s
      | .nack  => exec .d2Nack s
      | .aas   => exec .d2None s)

/-- R91: under `PerArm` comparison `d2i` takes its own sample and fires its arm exactly when the class matches; the
comparisons are UNDEF, SCD, XRDY, RRDY, NACK, and after the last one ACK follows. -/
def Obligations.PerArmSamplingComparesInOrder : Prop :=
  ∀ s : State, s.phase = .d2 → s.NotReset → s.params.d2Sampling = .perArm →
    step s = mapNext State.consume
      (if s.d2i = 0 ∧ s.sampleCause = .undef then exec .d2Undef s
       else if s.d2i = 1 ∧ s.sampleCause = .scd then exec .d2Scd s
       else if s.d2i = 2 ∧ s.sampleCause = .xrdy then exec .d2Xrdy s
       else if s.d2i = 3 ∧ s.sampleCause = .rrdy then exec .d2Rrdy s
       else if s.d2i = 4 ∧ s.sampleCause = .nack then exec .d2Nack s
       else if s.d2i = 4 then .next { s with d2i := 0, phase := .ack }
       else .next { s with d2i := s.d2i + 1 })

/-- R98 (a): when every dispatch-2 sample is the same code, `PerArm` ends dispatch 2 in the state and trace in which
`Single` ends it. -/
def Obligations.EqualSamplesMakeBothSamplingsAgree : Prop :=
  ∀ (s : State) (x : Inputs) (rest : List Inputs), s.phase = .d2 → s.d2i = 0 → x.event = none →
    ∃ t u : State,
      core.run 1 { s with params := { s.params with d2Sampling := .single }, script := x :: rest } = .next t ∧
      core.run 5 { s with
        params := { s.params with d2Sampling := .perArm }, script := x :: x :: x :: x :: x :: rest } = .next u ∧
      u = { t with params := { t.params with d2Sampling := .perArm }, tick := s.tick + 5 } ∧ t.tick = s.tick + 1

/-- R98 (b): a sample of a fatal class that is compared with its own class halts the block in that step, with the halt and
the acknowledge as the only events and no register write. -/
def Obligations.FatalSamplesHaltWithoutRegisterWrites : Prop :=
  ∀ (s : State), s.phase = .d2 → s.NotReset → s.sampleCause ∈ [CauseClass.undef, .xrdy, .rrdy, .nack] →
    s.dispatch2Fires s.sampleCause = true →
    ∃ (t : State) (k : FaultKind), step s = .next t ∧ t.phase = .halted ∧ t.fault = some k ∧ t.cnt = s.cnt ∧
      t.dxr = s.dxr ∧ t.cfg = s.cfg ∧ t.trace = s.trace ++ [.halt k, .groupAck s.params.ackGroup]

/-! ### Faults and rules of the whole machine -/

/-- R106: a step that halts the block records one kind, emits the halt and then the acknowledge (none for
UnconfiguredInvocation, which comes from IDLE alone), clears the sample index, and writes nothing else. -/
def Obligations.FatalPathWritesNothingElse : Prop :=
  ∀ s t : State, s.phase ≠ .halted → step s = .next t → t.phase = .halted →
    ∃ k : FaultKind, (k = .unconfiguredInvocation ↔ s.phase = .idle) ∧
      t = ({ s with
        phase := .halted, d2i := 0, fault := some k,
        trace := s.trace ++ .halt k :: (if s.phase = .idle then [] else [.groupAck s.params.ackGroup]) } : State).consume

/-- R107: HALTED is absorbing: without RESET no number of steps changes anything of the block or emits an event. That a
step with no effect is a step to the unchanged state, counted like any other, is the choice of log 4 (DESIGN CHOICE). -/
def Obligations.HaltedAbsorbsUntilReset : Prop :=
  ∀ (n : Nat) (s : State), s.Faulted → s.NoResetFor n →
    core.run n s = .next { s with script := s.script.drop n, tick := s.tick + n }

/-- R118, R122: a busy-wait whose ready condition is never sampled 1 holds for any number of steps: nothing but RESET ends
it, no cause, no CONFIGURE and no INVOKE. -/
def Obligations.WaitsHoldWithoutTheReadyCondition : Prop :=
  ∀ (n : Nat) (s : State), s.cnt ≠ none → s.NoResetFor n →
    (s.phase = .waitRx ∧ ∀ k < n, (s.inputsAt k).rrdyIn = 0) ∨
      (s.phase = .waitTx ∧ ∀ k < n, (s.inputsAt k).xrdyIn = 0) →
    core.run n s = .next { s with script := s.script.drop n, tick := s.tick + n }

/-- R22: the trace is append-only between resets; the longest step, RX_C2, the configurator or the fatal path, emits at most
three events (R79, R60, R106). -/
def Obligations.TraceOnlyGrowsBetweenResets : Prop :=
  ∀ s t : State, s.NotReset → step s = .next t → ∃ added : List Event, t.trace = s.trace ++ added ∧ added.length ≤ 3

/-- R67: the phases of an invocation follow one another in the stated order alone. -/
def Obligations.PhasesFollowTheInvocationSequence : Prop :=
  ∀ s t : State, s.NotReset → step s = .next t → t.phase = s.phase ∨
    (s.phase, t.phase) ∈ [(Phase.idle, Phase.d1), (.idle, .halted), (.d1, .waitRx), (.d1, .waitTx), (.d1, .d2),
      (.d1, .halted), (.waitRx, .rxUpd), (.waitTx, .txUpd), (.rxUpd, .d2), (.txUpd, .d2), (.d2, .ack), (.d2, .halted),
      (.ack, .idle)]

/-- R67: the phases that are not waits, rest or halt do not hold: a step without RESET leaves D1, RX_UPD, TX_UPD and ACK,
and in D2 either leaves it or moves to the next comparison. -/
def Obligations.WorkingPhasesMoveOn : Prop :=
  ∀ s t : State, s.NotReset → step s = .next t →
    (s.phase ∈ [Phase.d1, .rxUpd, .txUpd, .ack] → t.phase ≠ s.phase) ∧
    (s.phase = .d2 → t.phase ≠ .d2 ∨ t.d2i.val = s.d2i.val + 1)

/-- R75: a step emits a group acknowledge exactly when it ends an invocation, by its return or by a halt, and then one. -/
def Obligations.OneAcknowledgePerInvocation : Prop :=
  ∀ s t : State, s.NotReset → step s = .next t →
    acks t.trace = acks s.trace ++
      (if s.phase.inInvocation = true ∧ t.phase.inInvocation = false then [s.params.ackGroup] else [])

/-- R13 to R22, R66: which arms write which field. An arm that is not named for a field leaves it as it was; no arm touches
the parameters or the coming inputs (log 1, log 2); and the steps that form no selector write the phase, the sample index
and the trace alone (R73, R91). -/
def Obligations.FieldsChangeOnlyByTheirWriters : Prop :=
  (∀ (i : Instr) (s t : State), exec i s = .next t →
    (t.cnt ≠ s.cnt → i ∈ [Instr.reset, .configure, .d2Scd, .rxC2, .rxC1, .txC0, .txC1, .txC2] ∨ ∃ c, i = .txCx c) ∧
    (t.dxr ≠ s.dxr → i ∈ [Instr.reset, .configure, .d2Scd, .rxC2, .txC1, .txC2] ∨ ∃ c, i = .txCx c) ∧
    (t.cfg ≠ s.cfg → i ∈ [Instr.reset, .configure, .d2Scd]) ∧
    (t.configured ≠ s.configured → i ∈ [Instr.reset, .configure, .d2Scd]) ∧
    (t.role ≠ s.role → i ∈ [Instr.reset, .configure, .d2Scd] ∨
      s.phase = .d1 ∧ (i ∈ [Instr.rxC2, .rxC1, .txC0, .txC1, .txC2] ∨ ∃ c, i = .rxCx c ∨ i = .txCx c)) ∧
    (t.fault ≠ s.fault → i ∈ [Instr.reset, .invoke, .dirBad, .d2Undef, .d2Xrdy, .d2Rrdy, .d2Nack]) ∧
    (t.d2i ≠ s.d2i → i ∈ [Instr.reset, .invoke, .dirBad, .d2Scd, .d2Undef, .d2Xrdy, .d2Rrdy, .d2Nack]) ∧
    (t.phase ≠ s.phase → i ≠ .configure) ∧
    (t.trace ≠ s.trace →
      i ∈ [Instr.reset, .configure, .invoke, .rxC2, .rxC1, .txC0, .txC1, .txC2, .dirBad, .d2Undef, .d2Scd, .d2Xrdy,
        .d2Rrdy, .d2Nack] ∨ ∃ c, i = .txCx c) ∧
    t.params = s.params ∧ t.script = s.script ∧ t.noReadyAfter = s.noReadyAfter ∧ t.tick = s.tick) ∧
  ∀ s t : State, s.fetch = .phaseStep → step s = .next t →
    t.cnt = s.cnt ∧ t.dxr = s.dxr ∧ t.cfg = s.cfg ∧ t.configured = s.configured ∧ t.role = s.role ∧
    t.fault = s.fault ∧ t.params = s.params

/-- R28, R49, R53: an arm has a step only in the phases its rules name and, in the addressed phase, only while the counter
is its own; elsewhere it changes nothing (the model's choice for "no step", log 4 and log 12). -/
def Obligations.ArmsHaveNoStepElsewhere : Prop :=
  ∀ s : State,
    (s.phase ≠ .idle → exec .configure s = .next s ∧ exec .invoke s = .next s) ∧
    (∀ i ∈ [Instr.dirBad, .d1PassUndef, .d1PassNack, .d1PassRrdy, .d1PassXrdy, .d1PassScd],
      s.phase ≠ .d1 → exec i s = .next s) ∧
    (∀ (i : Instr) (c : Count), (i, c) ∈ [(Instr.rxC2, (2 : Count)), (.rxC1, 1), (.rxCx c, c)] →
      s.phase ∉ [Phase.d1, .waitRx, .rxUpd] ∨ s.cnt ≠ some c → exec i s = .next s) ∧
    (∀ (i : Instr) (c : Count), (i, c) ∈ [(Instr.txC0, (0 : Count)), (.txC1, 1), (.txC2, 2), (.txCx c, c)] →
      s.phase ∉ [Phase.d1, .waitTx, .txUpd] ∨ s.cnt ≠ some c → exec i s = .next s) ∧
    (∀ (i : Instr) (k : CauseClass),
      (i, k) ∈ [(Instr.d2Undef, CauseClass.undef), (.d2Scd, .scd), (.d2Xrdy, .xrdy), (.d2Rrdy, .rrdy),
        (.d2Nack, .nack), (.d2None, .aas)] →
      s.phase ≠ .d2 ∨ s.dispatch2Fires k = false → exec i s = .next s)

/-! ### Invariants -/

/-- The invariant holds at reset, for every value of the free byte in `dxr` and of the open parameters. -/
def Obligations.ResetMeetsTheInvariant : Prop := State.reset.Inv

/-- R14, R16, R17, R18, R20, R21, R66, R68, R76: every step from every state that meets the invariant keeps it. -/
def Obligations.EveryStepKeepsTheInvariant : Prop :=
  ∀ s t : State, s.Inv → step s = .next t → t.Inv

/-- The empty trace of reset agrees with the reset state. -/
def Obligations.ResetTraceAgreesWithTheState : Prop := State.reset.TraceAgrees

/-- R19, R20, R21, R22: every step keeps the trace in agreement with the state: the last counter, image and byte written
are what the registers hold, and the halts are the fault record (so the block halts at most once between resets). -/
def Obligations.EveryStepKeepsTheTraceInAgreement : Prop :=
  ∀ s t : State, s.Inv → s.TraceAgrees → step s = .next t → t.TraceAgrees

/-- From every state that meets the invariant a step answers a next state: no step of a run is refused (U7, U18). -/
def Obligations.NoStepIsRefusedUnderTheInvariant : Prop :=
  ∀ s : State, s.Inv → ∃ t : State, step s = .next t

/-! ### Whole invocations -/

/-- R65, R91, R93: from the step of dispatch 2 that fires D2_SCD to the end of the invocation, with no host event between.
The slave is rearmed: counter 2, the image with the receiver default, the role unaddressed. The invocation ends in HALTED
exactly when, under `PerArm`, one of the three later samples is of the class of its comparison; otherwise it ends in IDLE
with its group acknowledge. -/
def Obligations.StopConditionLeavesTheSlaveRearmed : Prop :=
  ∀ (s : State) (n : Nat), s.phase = .d2 → s.sampleCause = .scd → s.dispatch2Fires .scd = true →
    n = (match s.params.d2Sampling with | .single => 2 | .perArm => 5) → s.NoEventFor n →
    let image := configImage s.params
    let laterFatal : Prop := s.params.d2Sampling = .perArm ∧
      (s.classify (s.inputsAt 1).causeIn = .xrdy ∨ s.classify (s.inputsAt 2).causeIn = .rrdy ∨
        s.classify (s.inputsAt 3).causeIn = .nack)
    ∃ t : State, core.run n s = .next t ∧ t.cnt = some 2 ∧ t.role = .idleUnaddressed ∧ t.configured = true ∧
      t.cfg = some image ∧ image.trx = 0 ∧
      (¬laterFatal → t.phase = .idle ∧ t.fault = s.fault ∧
        t.trace = s.trace ++ [.cfgWrite image, .cntWrite 2, .groupAck s.params.ackGroup]) ∧
      (laterFatal → t.phase = .halted ∧ ∃ k : FaultKind, t.fault = some k ∧
        t.trace = s.trace ++ [.cfgWrite image, .cntWrite 2, .halt k, .groupAck s.params.ackGroup])

/-- R82: from counter 2, a write of the byte `b` ends with counter 0 and `b` in the transmit register, and the read that
follows leaves `b` there, however long the two wait for their ready conditions. -/
def Obligations.ReceivedByteStaysForTheNextRead : Prop :=
  ∀ (s : State) (b b' d : Byte) (m m' : Nat) (write read rest : List Inputs), s.phase = .idle → s.configured = true →
    s.cnt = some 2 → s.d2i = 0 →
    Stimulus.inputs s.params d (.invoke
      { c1 := .named .aas, dir := some .receiver, wait := some m, drr := b, c2 := .named .aas }) = some write →
    Stimulus.inputs s.params d (.invoke
      { c1 := .named .aas, dir := some .transmitter, wait := some m', drr := b', c2 := .named .aas }) = some read →
    s.script = write ++ read ++ rest →
    ∃ t u : State, core.run write.length s = .next t ∧ core.run read.length t = .next u ∧
      t.phase = .idle ∧ t.cnt = some 0 ∧ t.dxr = b ∧ t.role = .addressedRx ∧
      u.phase = .idle ∧ u.cnt = some 1 ∧ u.dxr = b ∧ u.role = .addressedTx

/-- R89: successive reads with no stop between them write to the transmit register, from counter 0: nothing, the receive
register, A, B, A, B, and so on; from counter 2: A, B, A, B, and so on. -/
def Obligations.ReadsWriteTheTransmitSequence : Prop :=
  ∀ (s : State) (bs : List Byte) (d : Byte) (reads : InputStream) (rest : List Inputs), s.phase = .idle →
    s.configured = true → s.d2i = 0 → scriptInputs s.params d (bs.map .mreadEcho) = some reads →
    s.script = reads.script ++ rest →
    (s.cnt = some 0 → ∃ t : State, core.run reads.script.length s = .next t ∧ t.phase = .idle ∧
      bytesWritten t.trace = bytesWritten s.trace ++ (bs.mapIdx (fun n b =>
        if n = 0 then [] else if n = 1 then [b] else if n % 2 = 0 then [0x55] else [0xFF])).flatten) ∧
    (s.cnt = some 2 → ∃ t : State, core.run reads.script.length s = .next t ∧ t.phase = .idle ∧
      bytesWritten t.trace = bytesWritten s.trace ++ (bs.mapIdx (fun n _ =>
        if n % 2 = 0 then (0x55 : Byte) else 0xFF)))

/-- R115, R125: at rest the block does nothing: in IDLE, with no host event offered, no number of steps changes anything of
it or emits an event. -/
def Obligations.RestHoldsTheState : Prop :=
  (∀ s : State, s.AtRest → step s = .next s.consume) ∧
  ∀ (n : Nat) (s : State), s.phase = .idle → s.NoEventFor n →
    core.run n s = .next { s with script := s.script.drop n, tick := s.tick + n }

/-- R56, R118: after an INVOKE line with `wait=inf` whose addressed phase is entered, the block stays in that wait for any
number of steps, through any later lines and beyond the script, until RESET is offered; nothing is written or emitted. -/
def Obligations.EndlessWaitLineHangsUntilReset : Prop :=
  ∀ (s : State) (c : InvokeCommand) (later : List Stimulus) (d : Byte) (stream : InputStream) (n : Nat),
    s.phase = .idle → s.configured = true → s.cnt ≠ none → c.endless s.params.causeMap = true →
    scriptInputs s.params d (.invoke c :: later) = some stream → (s.load stream).NoResetFor (n + 2) →
    ∃ t : State, core.run (n + 2) (s.load stream) = .next t ∧ t.Waiting ∧
      t.phase = (if c.dir = some .receiver then .waitRx else .waitTx) ∧
      t.cnt = s.cnt ∧ t.dxr = s.dxr ∧ t.cfg = s.cfg ∧ t.trace = s.trace
end

