-- ==== Sys2Proof/Laws/Decode.lean ====
section
/-! SUPPORT. The decoder on selectors cut at the counter field: its upper 8 bits (stage, code, direction, reserved bit) and
its lower 16 (the counter). -/

namespace Sys2Proof

/-- The upper byte and the counter tell a selector. -/
theorem append_inj (h h' : BitVec 8) (c c' : BitVec 16) : h ++ c = h' ++ c' ↔ h = h' ∧ c = c' := by
  constructor
  · intro e
    have e1 := congrArg (fun w : BitVec (8 + 16) => w.extractLsb' 16 8) e
    have e2 := congrArg (fun w : BitVec (8 + 16) => w.extractLsb' 0 16) e
    simp only [BitVec.extractLsb'_append_eq_of_le, BitVec.extractLsb'_append_eq_of_add_le, le_refl, Nat.sub_self,
      Nat.zero_add] at e1 e2
    simpa using And.intro e1 e2
  · rintro ⟨rfl, rfl⟩; rfl

/-- Every selector is its upper byte and its counter field. -/
theorem selector_split (w : Selector) : w = (w.extractLsb' 16 8 ++ w.extractLsb' 0 16 : BitVec (8 + 16)) := by
  apply BitVec.eq_of_getLsbD_eq
  intro i hi
  rw [BitVec.getLsbD_append]
  by_cases h : i < 16
  · simp [h]
  · simp only [h, if_false, BitVec.getLsbD_extractLsb']
    simp [show 16 + (i - 16) = i by omega, show i - 16 < 8 by omega]

/-- A row with the full mask matches its own word alone. -/
theorem matches_exact (n : String) (a : Count → Instr) (p : BitVec 8) (q : BitVec 16) (h : BitVec 8) (c : BitVec 16) :
    Row.matches ⟨n, 0xFFFFFF, (p ++ q : BitVec (8 + 16)), a⟩ (h ++ c : BitVec (8 + 16)) = decide (h = p ∧ c = q) := by
  have e : (h ++ c) &&& (0xFFFFFF : BitVec (8 + 16)) = h ++ c := BitVec.and_allOnes
  rw [Bool.eq_iff_iff]
  show ((h ++ c : BitVec (8 + 16)) &&& 0xFFFFFF == p ++ q) = true ↔ _
  rw [e, beq_iff_eq, append_inj, decide_eq_true_iff]

/-- A row that leaves the counter open matches on the upper byte alone. -/
theorem matches_open (n : String) (a : Count → Instr) (p : BitVec 8) (h : BitVec 8) (c : BitVec 16) :
    Row.matches ⟨n, 0xFF0000, (p ++ 0#16 : BitVec (8 + 16)), a⟩ (h ++ c : BitVec (8 + 16)) = decide (h = p) := by
  have e : (h ++ c) &&& (0xFF0000 : BitVec (8 + 16)) = h ++ 0#16 := by
    rw [show (0xFF0000 : BitVec (8 + 16)) = 0xFF#8 ++ 0#16 by decide, BitVec.and_append]
    congr 1
    · exact BitVec.and_allOnes
    · simp
  rw [Bool.eq_iff_iff]
  show ((h ++ c : BitVec (8 + 16)) &&& 0xFF0000 == p ++ 0#16) = true ↔ _
  rw [e, beq_iff_eq, append_inj, decide_eq_true_iff]
  simp

/-- The counter field of a cut selector. -/
@[simp] theorem cntField_append (h : BitVec 8) (c : BitVec 16) : cntField (h ++ c : BitVec (8 + 16)) = c := by
  show (h ++ c : BitVec (8 + 16)).extractLsb' 0 16 = c
  rw [BitVec.extractLsb'_append_eq_of_add_le (by omega)]
  simp

/-- The table with its words cut at the counter field. -/
theorem opcodeTable_cut : opcodeTable =
  [ ⟨"RESET", 0xFFFFFF, (0x00#8 ++ 0#16 : BitVec (8 + 16)), fun _ => .reset⟩,
    ⟨"CONFIGURE", 0xFFFFFF, (0x08#8 ++ 0#16 : BitVec (8 + 16)), fun _ => .configure⟩,
    ⟨"INVOKE", 0xFFFFFF, (0x10#8 ++ 0#16 : BitVec (8 + 16)), fun _ => .invoke⟩,
    ⟨"RX_C2", 0xFFFFFF, (0x78#8 ++ 2#16 : BitVec (8 + 16)), fun _ => .rxC2⟩,
    ⟨"RX_C1", 0xFFFFFF, (0x78#8 ++ 1#16 : BitVec (8 + 16)), fun _ => .rxC1⟩,
    ⟨"RX_CX", 0xFF0000, (0x78#8 ++ 0#16 : BitVec (8 + 16)), .rxCx⟩,
    ⟨"TX_C0", 0xFFFFFF, (0x7A#8 ++ 0#16 : BitVec (8 + 16)), fun _ => .txC0⟩,
    ⟨"TX_C1", 0xFFFFFF, (0x7A#8 ++ 1#16 : BitVec (8 + 16)), fun _ => .txC1⟩,
    ⟨"TX_C2", 0xFFFFFF, (0x7A#8 ++ 2#16 : BitVec (8 + 16)), fun _ => .txC2⟩,
    ⟨"TX_CX", 0xFF0000, (0x7A#8 ++ 0#16 : BitVec (8 + 16)), .txCx⟩,
    ⟨"DIR_BAD", 0xFFFFFF, (0x7C#8 ++ 0#16 : BitVec (8 + 16)), fun _ => .dirBad⟩,
    ⟨"D1_PASS.UNDEF", 0xFFFFFF, (0x40#8 ++ 0#16 : BitVec (8 + 16)), fun _ => .d1PassUndef⟩,
    ⟨"D1_PASS.NACK", 0xFFFFFF, (0x50#8 ++ 0#16 : BitVec (8 + 16)), fun _ => .d1PassNack⟩,
    ⟨"D1_PASS.RRDY", 0xFFFFFF, (0x60#8 ++ 0#16 : BitVec (8 + 16)), fun _ => .d1PassRrdy⟩,
    ⟨"D1_PASS.XRDY", 0xFFFFFF, (0x68#8 ++ 0#16 : BitVec (8 + 16)), fun _ => .d1PassXrdy⟩,
    ⟨"D1_PASS.SCD", 0xFFFFFF, (0x70#8 ++ 0#16 : BitVec (8 + 16)), fun _ => .d1PassScd⟩,
    ⟨"D2_UNDEF", 0xFFFFFF, (0x80#8 ++ 0#16 : BitVec (8 + 16)), fun _ => .d2Undef⟩,
    ⟨"D2_SCD", 0xFFFFFF, (0xB0#8 ++ 0#16 : BitVec (8 + 16)), fun _ => .d2Scd⟩,
    ⟨"D2_XRDY", 0xFFFFFF, (0xA8#8 ++ 0#16 : BitVec (8 + 16)), fun _ => .d2Xrdy⟩,
    ⟨"D2_RRDY", 0xFFFFFF, (0xA0#8 ++ 0#16 : BitVec (8 + 16)), fun _ => .d2Rrdy⟩,
    ⟨"D2_NACK", 0xFFFFFF, (0x90#8 ++ 0#16 : BitVec (8 + 16)), fun _ => .d2Nack⟩,
    ⟨"D2_NONE", 0xFFFFFF, (0xB8#8 ++ 0#16 : BitVec (8 + 16)), fun _ => .d2None⟩ ] := rfl

/-- The arms whose selector has no counter, by their upper byte. -/
def fixedArm (h : BitVec 8) : Option Instr :=
  if h = 0x00 then some .reset
  else if h = 0x08 then some .configure
  else if h = 0x10 then some .invoke
  else if h = 0x7C then some .dirBad
  else if h = 0x40 then some .d1PassUndef
  else if h = 0x50 then some .d1PassNack
  else if h = 0x60 then some .d1PassRrdy
  else if h = 0x68 then some .d1PassXrdy
  else if h = 0x70 then some .d1PassScd
  else if h = 0x80 then some .d2Undef
  else if h = 0xB0 then some .d2Scd
  else if h = 0xA8 then some .d2Xrdy
  else if h = 0xA0 then some .d2Rrdy
  else if h = 0x90 then some .d2Nack
  else if h = 0xB8 then some .d2None
  else none

/-- The arm of a selector cut into its upper byte and its counter (R48, R51). -/
def armOf (h : BitVec 8) (c : Count) : Option Instr :=
  if h = 0x78 then some (if c = 2 then .rxC2 else if c = 1 then .rxC1 else .rxCx c)
  else if h = 0x7A then some (if c = 0 then .txC0 else if c = 1 then .txC1 else if c = 2 then .txC2 else .txCx c)
  else if c = 0 then fixedArm h
  else none

/-- The first match of the table, by the upper byte and the counter of the selector. -/
theorem firstMatch_cut (h : BitVec 8) (c : Count) :
    (opcodeTable.find? (fun r => r.matches (h ++ c : BitVec (8 + 16)))).map (fun r => r.arm c) = armOf h c := by
  rw [opcodeTable_cut]
  simp only [List.find?, matches_exact, matches_open]
  by_cases h0 : c = 0#16
  · subst h0; revert h; decide
  · by_cases hr : h = 0x78#8
    · subst hr
      by_cases h2 : c = 2#16
      · subst h2; rfl
      · by_cases h1 : c = 1#16
        · subst h1; rfl
        · simp [armOf, h1, h2]
    · by_cases ht : h = 0x7A#8
      · subst ht
        by_cases h1 : c = 1#16
        · subst h1; rfl
        · by_cases h2 : c = 2#16
          · subst h2; rfl
          · simp [armOf, h0, h1, h2]
      · simp [armOf, h0, hr, ht]

/-- The decoder, by the upper byte and the counter of the selector. -/
theorem decode_cut (h : BitVec 8) (c : Count) : decode (h ++ c : BitVec (8 + 16)) =
    match armOf h c with
    | some i => .ok i
    | none   => .error (rejectReason (h ++ c : BitVec (8 + 16))) := by
  rw [← firstMatch_cut]
  unfold decode
  cases opcodeTable.find? (fun r => r.matches (h ++ c : BitVec (8 + 16))) <;> simp

/-- The selectors that decode to an arm. -/
theorem decode_cut_ok (h : BitVec 8) (c : Count) (i : Instr) :
    decode (h ++ c : BitVec (8 + 16)) = .ok i ↔ armOf h c = some i := by
  rw [decode_cut]
  cases armOf h c <;> simp

/-- The selectors that decode to none. -/
theorem decode_cut_error (h : BitVec 8) (c : Count) :
    (∃ r, decode (h ++ c : BitVec (8 + 16)) = .error r) ↔ armOf h c = none := by
  rw [decode_cut]
  cases armOf h c <;> simp

/-- Every host command's selector decodes to it (R53). -/
@[simp] theorem decode_hostSelector (e : HostEvent) : decode (hostSelector e) =
    .ok (match e with | .reset => .reset | .configure => .configure | .invoke => .invoke) := by
  cases e <;> rfl

/-- A receiver selector decodes to the arm of its counter (R51, R59). -/
@[simp] theorem decode_receiverSelector (c : Count) :
    decode (receiverSelector c) = .ok (if c = 2 then .rxC2 else if c = 1 then .rxC1 else .rxCx c) :=
  decode_cut 0x78 c

/-- A transmitter selector decodes to the arm of its counter (R51, R59). -/
@[simp] theorem decode_transmitterSelector (c : Count) : decode (transmitterSelector c) =
    .ok (if c = 0 then .txC0 else if c = 1 then .txC1 else if c = 2 then .txC2 else .txCx c) :=
  decode_cut 0x7A c

@[simp] theorem decode_dirBadSelector : decode dirBadSelector = .ok .dirBad := rfl
@[simp] theorem decode_passSelector_undef : decode (passSelector .undef) = .ok .d1PassUndef := rfl
@[simp] theorem decode_passSelector_nack : decode (passSelector .nack) = .ok .d1PassNack := rfl
@[simp] theorem decode_passSelector_rrdy : decode (passSelector .rrdy) = .ok .d1PassRrdy := rfl
@[simp] theorem decode_passSelector_xrdy : decode (passSelector .xrdy) = .ok .d1PassXrdy := rfl
@[simp] theorem decode_passSelector_scd : decode (passSelector .scd) = .ok .d1PassScd := rfl

/-- Every dispatch-2 selector decodes to the arm of its class (R59). -/
@[simp] theorem decode_dispatch2Selector (k : CauseClass) : decode (dispatch2Selector k) =
    .ok (match k with
      | .undef => .d2Undef | .nack => .d2Nack | .rrdy => .d2Rrdy | .xrdy => .d2Xrdy | .scd => .d2Scd
      | .aas => .d2None) := by
  cases k <;> rfl

end Sys2Proof
end

