-- ==== Sys2Proof/Laws/State.lean ====
section
/-! SUPPORT. One lemma per field per update of State, so that no later proof unfolds a record update. -/

namespace Sys2Proof.Machine

@[simp] theorem State.emit_cnt (e : Event) (s : State) : (s.emit e).cnt = s.cnt := rfl
@[simp] theorem State.emit_phase (e : Event) (s : State) : (s.emit e).phase = s.phase := rfl
@[simp] theorem State.emit_d2i (e : Event) (s : State) : (s.emit e).d2i = s.d2i := rfl
@[simp] theorem State.emit_configured (e : Event) (s : State) : (s.emit e).configured = s.configured := rfl
@[simp] theorem State.emit_role (e : Event) (s : State) : (s.emit e).role = s.role := rfl
@[simp] theorem State.emit_dxr (e : Event) (s : State) : (s.emit e).dxr = s.dxr := rfl
@[simp] theorem State.emit_cfg (e : Event) (s : State) : (s.emit e).cfg = s.cfg := rfl
@[simp] theorem State.emit_fault (e : Event) (s : State) : (s.emit e).fault = s.fault := rfl
@[simp] theorem State.emit_trace (e : Event) (s : State) : (s.emit e).trace = s.trace ++ [e] := rfl
@[simp] theorem State.emit_params (e : Event) (s : State) : (s.emit e).params = s.params := rfl
@[simp] theorem State.emit_script (e : Event) (s : State) : (s.emit e).script = s.script := rfl
@[simp] theorem State.emit_tick (e : Event) (s : State) : (s.emit e).tick = s.tick := rfl
@[simp] theorem State.emit_noReadyAfter (e : Event) (s : State) : (s.emit e).noReadyAfter = s.noReadyAfter := rfl

@[simp] theorem State.goto_cnt (p : Phase) (s : State) : (s.goto p).cnt = s.cnt := rfl
@[simp] theorem State.goto_phase (p : Phase) (s : State) : (s.goto p).phase = p := rfl
@[simp] theorem State.goto_d2i (p : Phase) (s : State) : (s.goto p).d2i = s.d2i := rfl
@[simp] theorem State.goto_configured (p : Phase) (s : State) : (s.goto p).configured = s.configured := rfl
@[simp] theorem State.goto_role (p : Phase) (s : State) : (s.goto p).role = s.role := rfl
@[simp] theorem State.goto_dxr (p : Phase) (s : State) : (s.goto p).dxr = s.dxr := rfl
@[simp] theorem State.goto_cfg (p : Phase) (s : State) : (s.goto p).cfg = s.cfg := rfl
@[simp] theorem State.goto_fault (p : Phase) (s : State) : (s.goto p).fault = s.fault := rfl
@[simp] theorem State.goto_trace (p : Phase) (s : State) : (s.goto p).trace = s.trace := rfl
@[simp] theorem State.goto_params (p : Phase) (s : State) : (s.goto p).params = s.params := rfl
@[simp] theorem State.goto_script (p : Phase) (s : State) : (s.goto p).script = s.script := rfl
@[simp] theorem State.goto_tick (p : Phase) (s : State) : (s.goto p).tick = s.tick := rfl
@[simp] theorem State.goto_noReadyAfter (p : Phase) (s : State) : (s.goto p).noReadyAfter = s.noReadyAfter := rfl

@[simp] theorem State.writeDxr_cnt (v : Byte) (s : State) : (s.writeDxr v).cnt = s.cnt := rfl
@[simp] theorem State.writeDxr_phase (v : Byte) (s : State) : (s.writeDxr v).phase = s.phase := rfl
@[simp] theorem State.writeDxr_d2i (v : Byte) (s : State) : (s.writeDxr v).d2i = s.d2i := rfl
@[simp] theorem State.writeDxr_configured (v : Byte) (s : State) : (s.writeDxr v).configured = s.configured := rfl
@[simp] theorem State.writeDxr_role (v : Byte) (s : State) : (s.writeDxr v).role = s.role := rfl
@[simp] theorem State.writeDxr_dxr (v : Byte) (s : State) : (s.writeDxr v).dxr = v := rfl
@[simp] theorem State.writeDxr_cfg (v : Byte) (s : State) : (s.writeDxr v).cfg = s.cfg := rfl
@[simp] theorem State.writeDxr_fault (v : Byte) (s : State) : (s.writeDxr v).fault = s.fault := rfl
@[simp] theorem State.writeDxr_trace (v : Byte) (s : State) : (s.writeDxr v).trace = s.trace ++ [.dxrWrite v] := rfl
@[simp] theorem State.writeDxr_params (v : Byte) (s : State) : (s.writeDxr v).params = s.params := rfl
@[simp] theorem State.writeDxr_script (v : Byte) (s : State) : (s.writeDxr v).script = s.script := rfl
@[simp] theorem State.writeDxr_tick (v : Byte) (s : State) : (s.writeDxr v).tick = s.tick := rfl
@[simp] theorem State.writeDxr_noReadyAfter (v : Byte) (s : State) : (s.writeDxr v).noReadyAfter = s.noReadyAfter := rfl

@[simp] theorem State.writeCnt_cnt (v : Count) (s : State) : (s.writeCnt v).cnt = some v := rfl
@[simp] theorem State.writeCnt_phase (v : Count) (s : State) : (s.writeCnt v).phase = s.phase := rfl
@[simp] theorem State.writeCnt_d2i (v : Count) (s : State) : (s.writeCnt v).d2i = s.d2i := rfl
@[simp] theorem State.writeCnt_configured (v : Count) (s : State) : (s.writeCnt v).configured = s.configured := rfl
@[simp] theorem State.writeCnt_role (v : Count) (s : State) : (s.writeCnt v).role = s.role := rfl
@[simp] theorem State.writeCnt_dxr (v : Count) (s : State) : (s.writeCnt v).dxr = s.dxr := rfl
@[simp] theorem State.writeCnt_cfg (v : Count) (s : State) : (s.writeCnt v).cfg = s.cfg := rfl
@[simp] theorem State.writeCnt_fault (v : Count) (s : State) : (s.writeCnt v).fault = s.fault := rfl
@[simp] theorem State.writeCnt_trace (v : Count) (s : State) : (s.writeCnt v).trace = s.trace ++ [.cntWrite v] := rfl
@[simp] theorem State.writeCnt_params (v : Count) (s : State) : (s.writeCnt v).params = s.params := rfl
@[simp] theorem State.writeCnt_script (v : Count) (s : State) : (s.writeCnt v).script = s.script := rfl
@[simp] theorem State.writeCnt_tick (v : Count) (s : State) : (s.writeCnt v).tick = s.tick := rfl
@[simp] theorem State.writeCnt_noReadyAfter (v : Count) (s : State) :
    (s.writeCnt v).noReadyAfter = s.noReadyAfter := rfl

@[simp] theorem State.writeCfg_cnt (v : CfgImage) (s : State) : (s.writeCfg v).cnt = s.cnt := rfl
@[simp] theorem State.writeCfg_phase (v : CfgImage) (s : State) : (s.writeCfg v).phase = s.phase := rfl
@[simp] theorem State.writeCfg_d2i (v : CfgImage) (s : State) : (s.writeCfg v).d2i = s.d2i := rfl
@[simp] theorem State.writeCfg_configured (v : CfgImage) (s : State) : (s.writeCfg v).configured = s.configured := rfl
@[simp] theorem State.writeCfg_role (v : CfgImage) (s : State) : (s.writeCfg v).role = s.role := rfl
@[simp] theorem State.writeCfg_dxr (v : CfgImage) (s : State) : (s.writeCfg v).dxr = s.dxr := rfl
@[simp] theorem State.writeCfg_cfg (v : CfgImage) (s : State) : (s.writeCfg v).cfg = some v := rfl
@[simp] theorem State.writeCfg_fault (v : CfgImage) (s : State) : (s.writeCfg v).fault = s.fault := rfl
@[simp] theorem State.writeCfg_trace (v : CfgImage) (s : State) : (s.writeCfg v).trace = s.trace ++ [.cfgWrite v] := rfl
@[simp] theorem State.writeCfg_params (v : CfgImage) (s : State) : (s.writeCfg v).params = s.params := rfl
@[simp] theorem State.writeCfg_script (v : CfgImage) (s : State) : (s.writeCfg v).script = s.script := rfl
@[simp] theorem State.writeCfg_tick (v : CfgImage) (s : State) : (s.writeCfg v).tick = s.tick := rfl
@[simp] theorem State.writeCfg_noReadyAfter (v : CfgImage) (s : State) :
    (s.writeCfg v).noReadyAfter = s.noReadyAfter := rfl

@[simp] theorem State.setDxr_cnt (v : Byte) (s : State) : (s.setDxr v).cnt = s.cnt := rfl
@[simp] theorem State.setDxr_phase (v : Byte) (s : State) : (s.setDxr v).phase = s.phase := rfl
@[simp] theorem State.setDxr_d2i (v : Byte) (s : State) : (s.setDxr v).d2i = s.d2i := rfl
@[simp] theorem State.setDxr_configured (v : Byte) (s : State) : (s.setDxr v).configured = s.configured := rfl
@[simp] theorem State.setDxr_role (v : Byte) (s : State) : (s.setDxr v).role = s.role := rfl
@[simp] theorem State.setDxr_dxr (v : Byte) (s : State) : (s.setDxr v).dxr = v := rfl
@[simp] theorem State.setDxr_cfg (v : Byte) (s : State) : (s.setDxr v).cfg = s.cfg := rfl
@[simp] theorem State.setDxr_fault (v : Byte) (s : State) : (s.setDxr v).fault = s.fault := rfl
@[simp] theorem State.setDxr_trace (v : Byte) (s : State) : (s.setDxr v).trace = s.trace := rfl
@[simp] theorem State.setDxr_params (v : Byte) (s : State) : (s.setDxr v).params = s.params := rfl
@[simp] theorem State.setDxr_script (v : Byte) (s : State) : (s.setDxr v).script = s.script := rfl
@[simp] theorem State.setDxr_tick (v : Byte) (s : State) : (s.setDxr v).tick = s.tick := rfl
@[simp] theorem State.setDxr_noReadyAfter (v : Byte) (s : State) : (s.setDxr v).noReadyAfter = s.noReadyAfter := rfl

@[simp] theorem State.setRole_cnt (r : Role) (s : State) : (s.setRole r).cnt = s.cnt := rfl
@[simp] theorem State.setRole_phase (r : Role) (s : State) : (s.setRole r).phase = s.phase := rfl
@[simp] theorem State.setRole_d2i (r : Role) (s : State) : (s.setRole r).d2i = s.d2i := rfl
@[simp] theorem State.setRole_configured (r : Role) (s : State) : (s.setRole r).configured = s.configured := rfl
@[simp] theorem State.setRole_role (r : Role) (s : State) : (s.setRole r).role = r := rfl
@[simp] theorem State.setRole_dxr (r : Role) (s : State) : (s.setRole r).dxr = s.dxr := rfl
@[simp] theorem State.setRole_cfg (r : Role) (s : State) : (s.setRole r).cfg = s.cfg := rfl
@[simp] theorem State.setRole_fault (r : Role) (s : State) : (s.setRole r).fault = s.fault := rfl
@[simp] theorem State.setRole_trace (r : Role) (s : State) : (s.setRole r).trace = s.trace := rfl
@[simp] theorem State.setRole_params (r : Role) (s : State) : (s.setRole r).params = s.params := rfl
@[simp] theorem State.setRole_script (r : Role) (s : State) : (s.setRole r).script = s.script := rfl
@[simp] theorem State.setRole_tick (r : Role) (s : State) : (s.setRole r).tick = s.tick := rfl
@[simp] theorem State.setRole_noReadyAfter (r : Role) (s : State) : (s.setRole r).noReadyAfter = s.noReadyAfter := rfl

@[simp] theorem State.setConfigured_cnt (s : State) : (s.setConfigured).cnt = s.cnt := rfl
@[simp] theorem State.setConfigured_phase (s : State) : (s.setConfigured).phase = s.phase := rfl
@[simp] theorem State.setConfigured_d2i (s : State) : (s.setConfigured).d2i = s.d2i := rfl
@[simp] theorem State.setConfigured_configured (s : State) : (s.setConfigured).configured = true := rfl
@[simp] theorem State.setConfigured_role (s : State) : (s.setConfigured).role = s.role := rfl
@[simp] theorem State.setConfigured_dxr (s : State) : (s.setConfigured).dxr = s.dxr := rfl
@[simp] theorem State.setConfigured_cfg (s : State) : (s.setConfigured).cfg = s.cfg := rfl
@[simp] theorem State.setConfigured_fault (s : State) : (s.setConfigured).fault = s.fault := rfl
@[simp] theorem State.setConfigured_trace (s : State) : (s.setConfigured).trace = s.trace := rfl
@[simp] theorem State.setConfigured_params (s : State) : (s.setConfigured).params = s.params := rfl
@[simp] theorem State.setConfigured_script (s : State) : (s.setConfigured).script = s.script := rfl
@[simp] theorem State.setConfigured_tick (s : State) : (s.setConfigured).tick = s.tick := rfl
@[simp] theorem State.setConfigured_noReadyAfter (s : State) : (s.setConfigured).noReadyAfter = s.noReadyAfter := rfl

@[simp] theorem State.acknowledge_cnt (s : State) : (s.acknowledge).cnt = s.cnt := rfl
@[simp] theorem State.acknowledge_phase (s : State) : (s.acknowledge).phase = s.phase := rfl
@[simp] theorem State.acknowledge_d2i (s : State) : (s.acknowledge).d2i = s.d2i := rfl
@[simp] theorem State.acknowledge_configured (s : State) : (s.acknowledge).configured = s.configured := rfl
@[simp] theorem State.acknowledge_role (s : State) : (s.acknowledge).role = s.role := rfl
@[simp] theorem State.acknowledge_dxr (s : State) : (s.acknowledge).dxr = s.dxr := rfl
@[simp] theorem State.acknowledge_cfg (s : State) : (s.acknowledge).cfg = s.cfg := rfl
@[simp] theorem State.acknowledge_fault (s : State) : (s.acknowledge).fault = s.fault := rfl
@[simp] theorem State.acknowledge_trace (s : State) : (s.acknowledge).trace = s.trace ++ [.groupAck s.params.ackGroup] := rfl
@[simp] theorem State.acknowledge_params (s : State) : (s.acknowledge).params = s.params := rfl
@[simp] theorem State.acknowledge_script (s : State) : (s.acknowledge).script = s.script := rfl
@[simp] theorem State.acknowledge_tick (s : State) : (s.acknowledge).tick = s.tick := rfl
@[simp] theorem State.acknowledge_noReadyAfter (s : State) : (s.acknowledge).noReadyAfter = s.noReadyAfter := rfl

@[simp] theorem State.ackReturn_cnt (s : State) : (s.ackReturn).cnt = s.cnt := rfl
@[simp] theorem State.ackReturn_phase (s : State) : (s.ackReturn).phase = .idle := rfl
@[simp] theorem State.ackReturn_d2i (s : State) : (s.ackReturn).d2i = s.d2i := rfl
@[simp] theorem State.ackReturn_configured (s : State) : (s.ackReturn).configured = s.configured := rfl
@[simp] theorem State.ackReturn_role (s : State) : (s.ackReturn).role = s.role := rfl
@[simp] theorem State.ackReturn_dxr (s : State) : (s.ackReturn).dxr = s.dxr := rfl
@[simp] theorem State.ackReturn_cfg (s : State) : (s.ackReturn).cfg = s.cfg := rfl
@[simp] theorem State.ackReturn_fault (s : State) : (s.ackReturn).fault = s.fault := rfl
@[simp] theorem State.ackReturn_trace (s : State) : (s.ackReturn).trace = s.trace ++ [.groupAck s.params.ackGroup] := rfl
@[simp] theorem State.ackReturn_params (s : State) : (s.ackReturn).params = s.params := rfl
@[simp] theorem State.ackReturn_script (s : State) : (s.ackReturn).script = s.script := rfl
@[simp] theorem State.ackReturn_tick (s : State) : (s.ackReturn).tick = s.tick := rfl
@[simp] theorem State.ackReturn_noReadyAfter (s : State) : (s.ackReturn).noReadyAfter = s.noReadyAfter := rfl

@[simp] theorem State.enterReceiver_cnt (s : State) : (s.enterReceiver).cnt = s.cnt := rfl
@[simp] theorem State.enterReceiver_phase (s : State) : (s.enterReceiver).phase = .waitRx := rfl
@[simp] theorem State.enterReceiver_d2i (s : State) : (s.enterReceiver).d2i = s.d2i := rfl
@[simp] theorem State.enterReceiver_configured (s : State) : (s.enterReceiver).configured = s.configured := rfl
@[simp] theorem State.enterReceiver_role (s : State) : (s.enterReceiver).role = .addressedRx := rfl
@[simp] theorem State.enterReceiver_dxr (s : State) : (s.enterReceiver).dxr = s.dxr := rfl
@[simp] theorem State.enterReceiver_cfg (s : State) : (s.enterReceiver).cfg = s.cfg := rfl
@[simp] theorem State.enterReceiver_fault (s : State) : (s.enterReceiver).fault = s.fault := rfl
@[simp] theorem State.enterReceiver_trace (s : State) : (s.enterReceiver).trace = s.trace := rfl
@[simp] theorem State.enterReceiver_params (s : State) : (s.enterReceiver).params = s.params := rfl
@[simp] theorem State.enterReceiver_script (s : State) : (s.enterReceiver).script = s.script := rfl
@[simp] theorem State.enterReceiver_tick (s : State) : (s.enterReceiver).tick = s.tick := rfl
@[simp] theorem State.enterReceiver_noReadyAfter (s : State) : (s.enterReceiver).noReadyAfter = s.noReadyAfter := rfl

@[simp] theorem State.enterTransmitter_cnt (s : State) : (s.enterTransmitter).cnt = s.cnt := rfl
@[simp] theorem State.enterTransmitter_phase (s : State) : (s.enterTransmitter).phase = .waitTx := rfl
@[simp] theorem State.enterTransmitter_d2i (s : State) : (s.enterTransmitter).d2i = s.d2i := rfl
@[simp] theorem State.enterTransmitter_configured (s : State) : (s.enterTransmitter).configured = s.configured := rfl
@[simp] theorem State.enterTransmitter_role (s : State) : (s.enterTransmitter).role = .addressedTx := rfl
@[simp] theorem State.enterTransmitter_dxr (s : State) : (s.enterTransmitter).dxr = s.dxr := rfl
@[simp] theorem State.enterTransmitter_cfg (s : State) : (s.enterTransmitter).cfg = s.cfg := rfl
@[simp] theorem State.enterTransmitter_fault (s : State) : (s.enterTransmitter).fault = s.fault := rfl
@[simp] theorem State.enterTransmitter_trace (s : State) : (s.enterTransmitter).trace = s.trace := rfl
@[simp] theorem State.enterTransmitter_params (s : State) : (s.enterTransmitter).params = s.params := rfl
@[simp] theorem State.enterTransmitter_script (s : State) : (s.enterTransmitter).script = s.script := rfl
@[simp] theorem State.enterTransmitter_tick (s : State) : (s.enterTransmitter).tick = s.tick := rfl
@[simp] theorem State.enterTransmitter_noReadyAfter (s : State) :
    (s.enterTransmitter).noReadyAfter = s.noReadyAfter := rfl

@[simp] theorem State.configure_cnt (s : State) : (s.configure).cnt = some Config.initCnt := rfl
@[simp] theorem State.configure_phase (s : State) : (s.configure).phase = s.phase := rfl
@[simp] theorem State.configure_d2i (s : State) : (s.configure).d2i = s.d2i := rfl
@[simp] theorem State.configure_configured (s : State) : (s.configure).configured = true := rfl
@[simp] theorem State.configure_role (s : State) : (s.configure).role = .idleUnaddressed := rfl
@[simp] theorem State.configure_dxr (s : State) : (s.configure).dxr = s.drawAny8 := rfl
@[simp] theorem State.configure_cfg (s : State) : (s.configure).cfg = some (configImage s.params) := rfl
@[simp] theorem State.configure_fault (s : State) : (s.configure).fault = s.fault := rfl
@[simp] theorem State.configure_trace (s : State) : (s.configure).trace = s.trace ++ [.cfgWrite (configImage s.params)] ++ [.cntWrite Config.initCnt] := rfl
@[simp] theorem State.configure_params (s : State) : (s.configure).params = s.params := rfl
@[simp] theorem State.configure_script (s : State) : (s.configure).script = s.script := rfl
@[simp] theorem State.configure_tick (s : State) : (s.configure).tick = s.tick := rfl
@[simp] theorem State.configure_noReadyAfter (s : State) : (s.configure).noReadyAfter = s.noReadyAfter := rfl

@[simp] theorem State.powerOn_cnt (s : State) : (s.powerOn).cnt = none := rfl
@[simp] theorem State.powerOn_phase (s : State) : (s.powerOn).phase = .idle := rfl
@[simp] theorem State.powerOn_d2i (s : State) : (s.powerOn).d2i = 0 := rfl
@[simp] theorem State.powerOn_configured (s : State) : (s.powerOn).configured = false := rfl
@[simp] theorem State.powerOn_role (s : State) : (s.powerOn).role = .idleUnaddressed := rfl
@[simp] theorem State.powerOn_dxr (s : State) : (s.powerOn).dxr = s.drawAny8 := rfl
@[simp] theorem State.powerOn_cfg (s : State) : (s.powerOn).cfg = none := rfl
@[simp] theorem State.powerOn_fault (s : State) : (s.powerOn).fault = none := rfl
@[simp] theorem State.powerOn_trace (s : State) : (s.powerOn).trace = [] := rfl
@[simp] theorem State.powerOn_params (s : State) : (s.powerOn).params = s.params := rfl
@[simp] theorem State.powerOn_script (s : State) : (s.powerOn).script = s.script := rfl
@[simp] theorem State.powerOn_tick (s : State) : (s.powerOn).tick = s.tick := rfl
@[simp] theorem State.powerOn_noReadyAfter (s : State) : (s.powerOn).noReadyAfter = s.noReadyAfter := rfl

@[simp] theorem State.consume_cnt (s : State) : (s.consume).cnt = s.cnt := rfl
@[simp] theorem State.consume_phase (s : State) : (s.consume).phase = s.phase := rfl
@[simp] theorem State.consume_d2i (s : State) : (s.consume).d2i = s.d2i := rfl
@[simp] theorem State.consume_configured (s : State) : (s.consume).configured = s.configured := rfl
@[simp] theorem State.consume_role (s : State) : (s.consume).role = s.role := rfl
@[simp] theorem State.consume_dxr (s : State) : (s.consume).dxr = s.dxr := rfl
@[simp] theorem State.consume_cfg (s : State) : (s.consume).cfg = s.cfg := rfl
@[simp] theorem State.consume_fault (s : State) : (s.consume).fault = s.fault := rfl
@[simp] theorem State.consume_trace (s : State) : (s.consume).trace = s.trace := rfl
@[simp] theorem State.consume_params (s : State) : (s.consume).params = s.params := rfl
@[simp] theorem State.consume_script (s : State) : (s.consume).script = s.script.tail := rfl
@[simp] theorem State.consume_tick (s : State) : (s.consume).tick = s.tick + 1 := rfl
@[simp] theorem State.consume_noReadyAfter (s : State) : (s.consume).noReadyAfter = s.noReadyAfter := rfl

@[simp] theorem State.raiseFatal_cnt (k : FaultKind) (s : State) : (s.raiseFatal k).cnt = s.cnt := by
  cases k <;> rfl
@[simp] theorem State.raiseFatal_phase (k : FaultKind) (s : State) : (s.raiseFatal k).phase = .halted := rfl
@[simp] theorem State.raiseFatal_d2i (k : FaultKind) (s : State) : (s.raiseFatal k).d2i = 0 := rfl
@[simp] theorem State.raiseFatal_configured (k : FaultKind) (s : State) : (s.raiseFatal k).configured = s.configured := by
  cases k <;> rfl
@[simp] theorem State.raiseFatal_role (k : FaultKind) (s : State) : (s.raiseFatal k).role = s.role := by
  cases k <;> rfl
@[simp] theorem State.raiseFatal_dxr (k : FaultKind) (s : State) : (s.raiseFatal k).dxr = s.dxr := by
  cases k <;> rfl
@[simp] theorem State.raiseFatal_cfg (k : FaultKind) (s : State) : (s.raiseFatal k).cfg = s.cfg := by
  cases k <;> rfl
@[simp] theorem State.raiseFatal_fault (k : FaultKind) (s : State) : (s.raiseFatal k).fault = some k := by
  cases k <;> rfl
@[simp] theorem State.raiseFatal_trace (k : FaultKind) (s : State) : (s.raiseFatal k).trace =
    s.trace ++ .halt k :: (if k = .unconfiguredInvocation then [] else [.groupAck s.params.ackGroup]) := by
  cases k <;> simp [State.raiseFatal, State.emit, State.acknowledge]
@[simp] theorem State.raiseFatal_params (k : FaultKind) (s : State) : (s.raiseFatal k).params = s.params := by
  cases k <;> rfl
@[simp] theorem State.raiseFatal_script (k : FaultKind) (s : State) : (s.raiseFatal k).script = s.script := by
  cases k <;> rfl
@[simp] theorem State.raiseFatal_tick (k : FaultKind) (s : State) : (s.raiseFatal k).tick = s.tick := by
  cases k <;> rfl
@[simp] theorem State.raiseFatal_noReadyAfter (k : FaultKind) (s : State) :
    (s.raiseFatal k).noReadyAfter = s.noReadyAfter := by
  cases k <;> rfl

/-- The inputs of the coming steps depend on the script, what follows it, and the step number alone. -/
theorem State.inputsAt_congr {s t : State} (h : t.script = s.script) (h' : t.noReadyAfter = s.noReadyAfter)
    (h'' : t.tick = s.tick) (k : Nat) : t.inputsAt k = s.inputsAt k := by
  simp [State.inputsAt, State.freeInputs, h, h', h'']

/-- The inputs of the next step, likewise. -/
theorem State.inputs_congr {s t : State} (h : t.script = s.script) (h' : t.noReadyAfter = s.noReadyAfter)
    (h'' : t.tick = s.tick) : t.inputs = s.inputs := State.inputsAt_congr h h' h'' 0

/-- After a step, the inputs `k` steps ahead are those that were `k + 1` steps ahead. -/
@[simp] theorem State.consume_inputsAt (s : State) (k : Nat) : s.consume.inputsAt k = s.inputsAt (k + 1) := by
  have e : s.tick + 1 + k = s.tick + (k + 1) := by omega
  simp only [State.inputsAt, State.freeInputs, State.consume_script, State.consume_noReadyAfter, State.consume_tick,
    List.drop_tail, e]

/-- The next step's inputs after a step. -/
@[simp] theorem State.consume_inputs (s : State) : s.consume.inputs = s.inputsAt 1 := s.consume_inputsAt 0

/-- Under `noReadyAfter`, past the script neither ready condition is observed (R56). -/
theorem State.freeInputs_noReady {s : State} (h : s.noReadyAfter = true) (n : Nat) :
    (s.freeInputs n).rrdyIn = 0 ∧ (s.freeInputs n).xrdyIn = 0 := by
  simp [State.freeInputs, h, Inputs.withoutReady]

@[simp] theorem State.emit_inputs (e : Event) (s : State) : (s.emit e).inputs = s.inputs := rfl
@[simp] theorem State.goto_inputs (p : Phase) (s : State) : (s.goto p).inputs = s.inputs := rfl
@[simp] theorem State.writeDxr_inputs (v : Byte) (s : State) : (s.writeDxr v).inputs = s.inputs := rfl
@[simp] theorem State.writeCnt_inputs (v : Count) (s : State) : (s.writeCnt v).inputs = s.inputs := rfl
@[simp] theorem State.writeCfg_inputs (v : CfgImage) (s : State) : (s.writeCfg v).inputs = s.inputs := rfl
@[simp] theorem State.setDxr_inputs (v : Byte) (s : State) : (s.setDxr v).inputs = s.inputs := rfl
@[simp] theorem State.setRole_inputs (r : Role) (s : State) : (s.setRole r).inputs = s.inputs := rfl
@[simp] theorem State.setConfigured_inputs (s : State) : (s.setConfigured).inputs = s.inputs := rfl
@[simp] theorem State.acknowledge_inputs (s : State) : (s.acknowledge).inputs = s.inputs := rfl
@[simp] theorem State.ackReturn_inputs (s : State) : (s.ackReturn).inputs = s.inputs := rfl
@[simp] theorem State.enterReceiver_inputs (s : State) : (s.enterReceiver).inputs = s.inputs := rfl
@[simp] theorem State.enterTransmitter_inputs (s : State) : (s.enterTransmitter).inputs = s.inputs := rfl
@[simp] theorem State.configure_inputs (s : State) : (s.configure).inputs = s.inputs := rfl
@[simp] theorem State.powerOn_inputs (s : State) : (s.powerOn).inputs = s.inputs := rfl
@[simp] theorem State.raiseFatal_inputs (k : FaultKind) (s : State) : (s.raiseFatal k).inputs = s.inputs :=
  State.inputs_congr (by simp) (by simp) (by simp)
@[simp] theorem State.inputs_of_script {s : State} {x : Inputs} {xs : List Inputs} (h : s.script = x :: xs) :
    s.inputs = x := by
  simp [State.inputs, State.inputsAt, h]
@[simp] theorem State.offer_inputs (f : Inputs → Inputs) (s : State) : (s.offer f).inputs = f s.inputs := rfl
@[simp] theorem State.offer_script (f : Inputs → Inputs) (s : State) :
    (s.offer f).script = f s.inputs :: s.script.tail := rfl
@[simp] theorem State.offer_cnt (f : Inputs → Inputs) (s : State) : (s.offer f).cnt = s.cnt := rfl
@[simp] theorem State.offer_phase (f : Inputs → Inputs) (s : State) : (s.offer f).phase = s.phase := rfl
@[simp] theorem State.offer_d2i (f : Inputs → Inputs) (s : State) : (s.offer f).d2i = s.d2i := rfl
@[simp] theorem State.offer_configured (f : Inputs → Inputs) (s : State) : (s.offer f).configured = s.configured := rfl
@[simp] theorem State.offer_role (f : Inputs → Inputs) (s : State) : (s.offer f).role = s.role := rfl
@[simp] theorem State.offer_dxr (f : Inputs → Inputs) (s : State) : (s.offer f).dxr = s.dxr := rfl
@[simp] theorem State.offer_cfg (f : Inputs → Inputs) (s : State) : (s.offer f).cfg = s.cfg := rfl
@[simp] theorem State.offer_fault (f : Inputs → Inputs) (s : State) : (s.offer f).fault = s.fault := rfl
@[simp] theorem State.offer_trace (f : Inputs → Inputs) (s : State) : (s.offer f).trace = s.trace := rfl
@[simp] theorem State.offer_params (f : Inputs → Inputs) (s : State) : (s.offer f).params = s.params := rfl
@[simp] theorem State.offer_tick (f : Inputs → Inputs) (s : State) : (s.offer f).tick = s.tick := rfl
@[simp] theorem State.offer_noReadyAfter (f : Inputs → Inputs) (s : State) :
    (s.offer f).noReadyAfter = s.noReadyAfter := rfl

end Sys2Proof.Machine
end

