-- ==== Sys2Proof/Laws/Ops.lean ====
section
/-! SUPPORT. What each shared operation can do, said once: provers cite these lemmas instead of unfolding. -/

namespace Sys2Proof.Machine

/-- A command admitted in IDLE either runs there or has no step. -/
theorem inIdle_cases (run : State → State) (s : State) :
    (s.phase = .idle ∧ inIdle run s = .next (run s)) ∨ (s.phase ≠ .idle ∧ inIdle run s = .next s) := by
  by_cases h : s.phase = .idle <;> simp [inIdle, noStep, h]

/-- A dispatch-1 arm either runs in D1 or has no step. -/
theorem inD1_cases (run : State → State) (s : State) :
    (s.phase = .d1 ∧ inD1 run s = .next (run s)) ∨ (s.phase ≠ .d1 ∧ inD1 run s = .next s) := by
  by_cases h : s.phase = .d1 <;> simp [inD1, noStep, h]

/-- A receiver arm with its counter: dispatch, wait, update, or no step. -/
theorem receiverArm_cases (c : Count) (update : State → State) (s : State) :
    (s.cnt = some c ∧ s.phase = .d1 ∧ receiverArm c update s = .next s.enterReceiver) ∨
    (s.cnt = some c ∧ s.phase = .waitRx ∧ receiverArm c update s = .next s.pollReceive) ∨
    (s.cnt = some c ∧ s.phase = .rxUpd ∧ receiverArm c update s = .next (update s)) ∨
    receiverArm c update s = .next s := by
  by_cases h : s.cnt = some c
  · cases hp : s.phase <;> simp [receiverArm, noStep, h, hp]
  · simp [receiverArm, noStep, h]

/-- A transmitter arm with its counter: dispatch, wait, update, or no step. -/
theorem transmitterArm_cases (c : Count) (update : State → State) (s : State) :
    (s.cnt = some c ∧ s.phase = .d1 ∧ transmitterArm c update s = .next s.enterTransmitter) ∨
    (s.cnt = some c ∧ s.phase = .waitTx ∧ transmitterArm c update s = .next s.pollTransmit) ∨
    (s.cnt = some c ∧ s.phase = .txUpd ∧ transmitterArm c update s = .next (update s)) ∨
    transmitterArm c update s = .next s := by
  by_cases h : s.cnt = some c
  · cases hp : s.phase <;> simp [transmitterArm, noStep, h, hp]
  · simp [transmitterArm, noStep, h]

/-- A dispatch-2 arm either runs where its sample fires it or has no step. -/
theorem dispatch2Arm_cases (k : CauseClass) (run : State → State) (s : State) :
    (s.phase = .d2 ∧ s.dispatch2Fires k = true ∧ dispatch2Arm k run s = .next (run s)) ∨
    dispatch2Arm k run s = .next s := by
  by_cases h : s.phase = .d2 ∧ s.dispatch2Fires k = true
  · exact .inl ⟨h.1, h.2, by simp [dispatch2Arm, h]⟩
  · exact .inr (by simp only [dispatch2Arm, noStep, if_neg h])

/-- Dispatch 2 after a comparison that does not halt. -/
theorem State.continueDispatch2_cases (s : State) :
    (s.params.d2Sampling = .single ∧ s.continueDispatch2 = s.goto .ack) ∨
    (s.params.d2Sampling = .perArm ∧ s.d2i = 4 ∧ s.continueDispatch2 = ({ s with d2i := 0 } : State).goto .ack) ∨
    (s.params.d2Sampling = .perArm ∧ s.d2i ≠ 4 ∧ s.continueDispatch2 = { s with d2i := s.d2i + 1 }) := by
  cases h : s.params.d2Sampling
  · by_cases h4 : s.d2i = 4 <;> simp [State.continueDispatch2, h, h4]
  · simp [State.continueDispatch2, h]

/-- The receive busy-wait: it ends on the ready condition or holds (R77). -/
theorem State.pollReceive_cases (s : State) :
    (s.sampleRrdy = 1 ∧ s.pollReceive = s.goto .rxUpd) ∨ (s.sampleRrdy ≠ 1 ∧ s.pollReceive = s) := by
  by_cases h : s.sampleRrdy = 1
  · exact .inl ⟨h, if_pos h⟩
  · exact .inr ⟨h, if_neg h⟩

/-- The transmit busy-wait: it ends on the ready condition or holds (R83). -/
theorem State.pollTransmit_cases (s : State) :
    (s.sampleXrdy = 1 ∧ s.pollTransmit = s.goto .txUpd) ∨ (s.sampleXrdy ≠ 1 ∧ s.pollTransmit = s) := by
  by_cases h : s.sampleXrdy = 1
  · exact .inl ⟨h, if_pos h⟩
  · exact .inr ⟨h, if_neg h⟩

/-- No comparison of dispatch 2 is against addressed-as-slave (R91, R97). -/
theorem comparedClass_ne_aas (i : Fin 5) : comparedClass i ≠ .aas := by revert i; decide

/-- What an arm does when it runs: the operation it stands for and when it runs, or no step. -/
inductive Effect : Instr → State → State → Prop where
  | noStep (i : Instr) (s : State) : Effect i s s
  | reset (s : State) : Effect .reset s s.powerOn
  | configure (s : State) (hp : s.phase = .idle) : Effect .configure s s.configure
  | invoke (s : State) (hp : s.phase = .idle) (hc : s.configured = true) : Effect .invoke s (s.goto .d1)
  | invokeUnconfigured (s : State) (hp : s.phase = .idle) (hc : s.configured = false) :
      Effect .invoke s (s.raiseFatal .unconfiguredInvocation)
  | enterReceiver (i : Instr) (s : State) (hi : i = .rxC2 ∨ i = .rxC1 ∨ ∃ c, i = .rxCx c) (hp : s.phase = .d1) :
      Effect i s s.enterReceiver
  | receiveReady (i : Instr) (s : State) (hi : i = .rxC2 ∨ i = .rxC1 ∨ ∃ c, i = .rxCx c) (hp : s.phase = .waitRx)
      (hr : s.sampleRrdy = 1) : Effect i s (s.goto .rxUpd)
  | rxC2 (s : State) (hp : s.phase = .rxUpd) (hc : s.cnt = some 2) :
      Effect .rxC2 s ((((s.writeDxr s.sampleDrr).writeCnt 1).writeCnt 0).goto .d2)
  | rxC1 (s : State) (hp : s.phase = .rxUpd) (hc : s.cnt = some 1) : Effect .rxC1 s ((s.writeCnt 0).goto .d2)
  | rxCx (c : Count) (s : State) (hp : s.phase = .rxUpd) (hc : s.cnt = some c) (h1 : c ≠ 1) (h2 : c ≠ 2) :
      Effect (.rxCx c) s (s.goto .d2)
  | enterTransmitter (i : Instr) (s : State) (hi : i = .txC0 ∨ i = .txC1 ∨ i = .txC2 ∨ ∃ c, i = .txCx c)
      (hp : s.phase = .d1) : Effect i s s.enterTransmitter
  | transmitReady (i : Instr) (s : State) (hi : i = .txC0 ∨ i = .txC1 ∨ i = .txC2 ∨ ∃ c, i = .txCx c)
      (hp : s.phase = .waitTx) (hx : s.sampleXrdy = 1) : Effect i s (s.goto .txUpd)
  | txC0 (s : State) (hp : s.phase = .txUpd) (hc : s.cnt = some 0) : Effect .txC0 s ((s.writeCnt 1).goto .d2)
  | txC1 (s : State) (hp : s.phase = .txUpd) (hc : s.cnt = some 1) :
      Effect .txC1 s (((s.writeDxr s.sampleDrr).writeCnt 2).goto .d2)
  | txC2 (s : State) (hp : s.phase = .txUpd) (hc : s.cnt = some 2) :
      Effect .txC2 s (((s.writeDxr Config.constA).writeCnt 3).goto .d2)
  | txCx (c : Count) (s : State) (hp : s.phase = .txUpd) (hc : s.cnt = some c) (h0 : c ≠ 0) (h1 : c ≠ 1) (h2 : c ≠ 2) :
      Effect (.txCx c) s (((s.writeDxr Config.constB).writeCnt 2).goto .d2)
  | dirBad (s : State) (hp : s.phase = .d1) : Effect .dirBad s (s.raiseFatal .unexpectedDirectionState)
  | pass (i : Instr) (s : State)
      (hi : i ∈ [.d1PassUndef, .d1PassNack, .d1PassRrdy, .d1PassXrdy, .d1PassScd]) (hp : s.phase = .d1) :
      Effect i s (s.goto .d2)
  | d2Scd (s : State) (hp : s.phase = .d2) (hf : s.dispatch2Fires .scd = true) :
      Effect .d2Scd s s.configure.continueDispatch2
  | d2None (s : State) (hp : s.phase = .d2) (hs : s.params.d2Sampling = .single) : Effect .d2None s (s.goto .ack)
  | d2Fatal (i : Instr) (k : FaultKind) (s : State)
      (hi : (i, k) ∈ [(Instr.d2Undef, FaultKind.unreachableInterruptCause), (.d2Xrdy, .protocolViolationTxReady),
        (.d2Rrdy, .protocolViolationRxReady), (.d2Nack, .notAcknowledged)]) (hp : s.phase = .d2) :
      Effect i s (s.raiseFatal k)

/-- A receiver arm that is its counter's arm has one of its three effects or no step. -/
theorem receiverArm_effect {i : Instr} {c : Count} {update : State → State} (s : State)
    (hi : i = .rxC2 ∨ i = .rxC1 ∨ ∃ c, i = .rxCx c)
    (hu : s.phase = .rxUpd → s.cnt = some c → Effect i s (update s)) :
    ∃ t, receiverArm c update s = .next t ∧ Effect i s t := by
  obtain ⟨-, hp, e⟩ | ⟨-, hp, e⟩ | ⟨hc, hp, e⟩ | e := receiverArm_cases c update s
  · exact ⟨_, e, .enterReceiver i s hi hp⟩
  · obtain ⟨hr, er⟩ | ⟨-, er⟩ := s.pollReceive_cases
    · exact ⟨_, e, er ▸ .receiveReady i s hi hp hr⟩
    · exact ⟨_, e, er.symm ▸ .noStep i s⟩
  · exact ⟨_, e, hu hp hc⟩
  · exact ⟨_, e, .noStep i s⟩

/-- A transmitter arm that is its counter's arm has one of its three effects or no step. -/
theorem transmitterArm_effect {i : Instr} {c : Count} {update : State → State} (s : State)
    (hi : i = .txC0 ∨ i = .txC1 ∨ i = .txC2 ∨ ∃ c, i = .txCx c)
    (hu : s.phase = .txUpd → s.cnt = some c → Effect i s (update s)) :
    ∃ t, transmitterArm c update s = .next t ∧ Effect i s t := by
  obtain ⟨-, hp, e⟩ | ⟨-, hp, e⟩ | ⟨hc, hp, e⟩ | e := transmitterArm_cases c update s
  · exact ⟨_, e, .enterTransmitter i s hi hp⟩
  · obtain ⟨hr, er⟩ | ⟨-, er⟩ := s.pollTransmit_cases
    · exact ⟨_, e, er ▸ .transmitReady i s hi hp hr⟩
    · exact ⟨_, e, er.symm ▸ .noStep i s⟩
  · exact ⟨_, e, hu hp hc⟩
  · exact ⟨_, e, .noStep i s⟩

/-- A dispatch-1 arm has its effect in D1 or no step. -/
theorem inD1_effect {i : Instr} {run : State → State} (s : State) (hu : s.phase = .d1 → Effect i s (run s)) :
    ∃ t, inD1 run s = .next t ∧ Effect i s t := by
  obtain ⟨hp, e⟩ | ⟨-, e⟩ := inD1_cases run s
  · exact ⟨_, e, hu hp⟩
  · exact ⟨_, e, .noStep i s⟩

/-- A dispatch-2 arm has its effect where it fires or no step. -/
theorem dispatch2Arm_effect {i : Instr} {k : CauseClass} {run : State → State} (s : State)
    (hu : s.phase = .d2 → s.dispatch2Fires k = true → Effect i s (run s)) :
    ∃ t, dispatch2Arm k run s = .next t ∧ Effect i s t := by
  obtain ⟨hp, hf, e⟩ | e := dispatch2Arm_cases k run s
  · exact ⟨_, e, hu hp hf⟩
  · exact ⟨_, e, .noStep i s⟩

/-- `D2_NONE` fires under `Single` only. -/
theorem State.dispatch2Fires_aas {s : State} (h : s.dispatch2Fires .aas = true) : s.params.d2Sampling = .single := by
  cases hs : s.params.d2Sampling
  · simp [State.dispatch2Fires, hs, comparedClass_ne_aas] at h
  · rfl

/-- An arm always answers a next state, and the state is one of its effects: no arm faults or is refused. -/
theorem exec_effect (i : Instr) (s : State) : ∃ t, exec i s = .next t ∧ Effect i s t := by
  cases i
  case reset => exact ⟨_, rfl, .reset s⟩
  case configure =>
    obtain ⟨hp, e⟩ | ⟨-, e⟩ := inIdle_cases State.configure s
    · exact ⟨_, e, .configure s hp⟩
    · exact ⟨_, e, .noStep _ s⟩
  case invoke =>
    obtain ⟨hp, e⟩ | ⟨-, e⟩ := inIdle_cases
      (fun s => if s.configured = false then s.raiseFatal .unconfiguredInvocation else s.goto .d1) s
    · refine ⟨_, e, ?_⟩
      cases hc : s.configured
      · exact .invokeUnconfigured s hp hc
      · exact .invoke s hp hc
    · exact ⟨_, e, .noStep _ s⟩
  case rxC2 =>
    simp only [exec, execRxC2]
    exact receiverArm_effect s (.inl rfl) fun hp hc => .rxC2 s hp hc
  case rxC1 =>
    simp only [exec, execRxC1]
    exact receiverArm_effect s (.inr (.inl rfl)) fun hp hc => .rxC1 s hp hc
  case rxCx c =>
    by_cases hx : c = 1 ∨ c = 2
    · exact ⟨s, if_pos hx, .noStep _ s⟩
    · obtain ⟨h1, h2⟩ := not_or.mp hx
      have e : exec (.rxCx c) s = receiverArm c (fun s => s.goto .d2) s := if_neg hx
      exact e ▸ receiverArm_effect s (.inr (.inr ⟨c, rfl⟩)) fun hp hc => .rxCx c s hp hc h1 h2
  case txC0 =>
    simp only [exec, execTxC0]
    exact transmitterArm_effect s (.inl rfl) fun hp hc => .txC0 s hp hc
  case txC1 =>
    simp only [exec, execTxC1]
    exact transmitterArm_effect s (.inr (.inl rfl)) fun hp hc => .txC1 s hp hc
  case txC2 =>
    simp only [exec, execTxC2]
    exact transmitterArm_effect s (.inr (.inr (.inl rfl))) fun hp hc => .txC2 s hp hc
  case txCx c =>
    by_cases hx : c = 0 ∨ c = 1 ∨ c = 2
    · exact ⟨s, if_pos hx, .noStep _ s⟩
    · have e : exec (.txCx c) s =
          transmitterArm c (fun s => ((s.writeDxr Config.constB).writeCnt 2).goto .d2) s := if_neg hx
      obtain ⟨h0, hx⟩ := not_or.mp hx
      obtain ⟨h1, h2⟩ := not_or.mp hx
      exact e ▸ transmitterArm_effect s (.inr (.inr (.inr ⟨c, rfl⟩))) fun hp hc => .txCx c s hp hc h0 h1 h2
  case dirBad => exact inD1_effect s (.dirBad s)
  case d1PassUndef => exact inD1_effect s (.pass _ s (by simp))
  case d1PassNack => exact inD1_effect s (.pass _ s (by simp))
  case d1PassRrdy => exact inD1_effect s (.pass _ s (by simp))
  case d1PassXrdy => exact inD1_effect s (.pass _ s (by simp))
  case d1PassScd => exact inD1_effect s (.pass _ s (by simp))
  case d2Undef => exact dispatch2Arm_effect s fun hp _ => .d2Fatal _ _ s (by simp) hp
  case d2Scd =>
    simp only [exec, execD2Scd]
    exact dispatch2Arm_effect s fun hp hf => .d2Scd s hp hf
  case d2Xrdy => exact dispatch2Arm_effect s fun hp _ => .d2Fatal _ _ s (by simp) hp
  case d2Rrdy => exact dispatch2Arm_effect s fun hp _ => .d2Fatal _ _ s (by simp) hp
  case d2Nack => exact dispatch2Arm_effect s fun hp _ => .d2Fatal _ _ s (by simp) hp
  case d2None => exact dispatch2Arm_effect s fun hp hf => .d2None s hp (State.dispatch2Fires_aas hf)

/-- The receiver arm that a counter selects is a receiver arm for that counter. -/
theorem exec_receiverArm (c : Count) (s : State) : ∃ update,
    exec (if c = 2 then .rxC2 else if c = 1 then .rxC1 else .rxCx c) s = receiverArm c update s := by
  split_ifs with h2 h1
  · subst h2; exact ⟨_, execRxC2.eq_1 s⟩
  · subst h1; exact ⟨_, execRxC1.eq_1 s⟩
  · exact ⟨_, if_neg (not_or.mpr ⟨h1, h2⟩)⟩

/-- The transmitter arm that a counter selects is a transmitter arm for that counter. -/
theorem exec_transmitterArm (c : Count) (s : State) : ∃ update,
    exec (if c = 0 then .txC0 else if c = 1 then .txC1 else if c = 2 then .txC2 else .txCx c) s =
      transmitterArm c update s := by
  split_ifs with h0 h1 h2
  · subst h0; exact ⟨_, execTxC0.eq_1 s⟩
  · subst h1; exact ⟨_, execTxC1.eq_1 s⟩
  · subst h2; exact ⟨_, execTxC2.eq_1 s⟩
  · exact ⟨_, if_neg (not_or.mpr ⟨h0, not_or.mpr ⟨h1, h2⟩⟩)⟩

/-- The effect of an arm that answered a next state. -/
theorem effect_of_exec {i : Instr} {s t : State} (h : exec i s = .next t) : Effect i s t := by
  obtain ⟨t', e, he⟩ := exec_effect i s
  rw [e] at h
  exact (Host.Outcome.next.inj h) ▸ he

end Sys2Proof.Machine
end

