-- ==== Sys2Proof/Laws/PerInstr.lean ====
section
/-! SUPPORT. A law of every arm as syntax: no field of its selector is a reserved one (R48, R52), and an arm of the
addressed phase alone has a counter field (R48). -/

namespace Sys2Proof.Laws.SelectorFields

/-- The reserved bit is 0, the stage and the direction are none of the reserved values, and a nonzero counter stands in a
dispatch-1 selector of class addressed-as-slave only. -/
def Statement (i : Instr) : Prop :=
  rsvField (encode i) = 0 ∧ stageField (encode i) ≠ 0b11 ∧ dirField (encode i) ≠ 0b11 ∧
    (cntField (encode i) = 0 ∨ (stageField (encode i) = 0b01 ∧ codeField (encode i) = classCode .aas))

/-- The fields of a selector above its counter do not depend on the counter (R48). -/
theorem upper_fields (h : BitVec 8) (c : Count) :
    rsvField (h ++ c : BitVec (8 + 16)) = h.extractLsb' 0 1 ∧ stageField (h ++ c : BitVec (8 + 16)) = h.extractLsb' 6 2 ∧
    dirField (h ++ c : BitVec (8 + 16)) = h.extractLsb' 1 2 ∧ codeField (h ++ c : BitVec (8 + 16)) = h.extractLsb' 3 3 :=
  ⟨BitVec.extractLsb'_append_eq_of_le (by omega), BitVec.extractLsb'_append_eq_of_le (by omega),
    BitVec.extractLsb'_append_eq_of_le (by omega), BitVec.extractLsb'_append_eq_of_le (by omega)⟩

theorem reset : Statement .reset := by unfold Statement; decide

theorem configure : Statement .configure := by unfold Statement; decide

theorem invoke : Statement .invoke := by unfold Statement; decide

theorem rxC2 : Statement .rxC2 := by unfold Statement; decide

theorem rxC1 : Statement .rxC1 := by unfold Statement; decide

theorem rxCx (c : Count) : Statement (.rxCx c) := by
  obtain ⟨hr, hs, hd, hk⟩ := upper_fields 0x78 c
  exact ⟨hr.trans (by decide), fun e => absurd (hs.symm.trans e) (by decide), fun e => absurd (hd.symm.trans e) (by decide),
    .inr ⟨hs.trans (by decide), hk.trans (by decide)⟩⟩

theorem txC0 : Statement .txC0 := by unfold Statement; decide

theorem txC1 : Statement .txC1 := by unfold Statement; decide

theorem txC2 : Statement .txC2 := by unfold Statement; decide

theorem txCx (c : Count) : Statement (.txCx c) := by
  obtain ⟨hr, hs, hd, hk⟩ := upper_fields 0x7A c
  exact ⟨hr.trans (by decide), fun e => absurd (hs.symm.trans e) (by decide), fun e => absurd (hd.symm.trans e) (by decide),
    .inr ⟨hs.trans (by decide), hk.trans (by decide)⟩⟩

theorem dirBad : Statement .dirBad := by unfold Statement; decide

theorem d1PassUndef : Statement .d1PassUndef := by unfold Statement; decide

theorem d1PassNack : Statement .d1PassNack := by unfold Statement; decide

theorem d1PassRrdy : Statement .d1PassRrdy := by unfold Statement; decide

theorem d1PassXrdy : Statement .d1PassXrdy := by unfold Statement; decide

theorem d1PassScd : Statement .d1PassScd := by unfold Statement; decide

theorem d2Undef : Statement .d2Undef := by unfold Statement; decide

theorem d2Scd : Statement .d2Scd := by unfold Statement; decide

theorem d2Xrdy : Statement .d2Xrdy := by unfold Statement; decide

theorem d2Rrdy : Statement .d2Rrdy := by unfold Statement; decide

theorem d2Nack : Statement .d2Nack := by unfold Statement; decide

theorem d2None : Statement .d2None := by unfold Statement; decide

end Sys2Proof.Laws.SelectorFields
end

