-- ==== Sys2Proof/Laws/Step.lean ====
section
/-! SUPPORT. What a step can do, said once, and what each phase fetches. -/

namespace Sys2Proof.Machine

/-- A next state of a step is the effect of the fetched arm, or the phase's own step; then the inputs are consumed. -/
theorem step_cases {s t : State} (h : step s = .next t) :
    (∃ w i u, s.fetch = .selector w ∧ decode w = .ok i ∧ exec i s = .next u ∧ Effect i s u ∧ t = u.consume) ∨
    (s.fetch = .phaseStep ∧ t = s.ownStep.consume) := by
  unfold step at h
  split at h
  · rename_i w hw
    split at h
    · rename_i i hi
      obtain ⟨u, hu, he⟩ := exec_effect i s
      rw [hu] at h
      exact .inl ⟨w, i, u, hw, hi, hu, he, (Host.Outcome.next.inj h).symm⟩
    · cases h
  · rename_i hw
    exact .inr ⟨hw, (Host.Outcome.next.inj h).symm⟩
  · cases h

/-- A step whose selector decodes runs the arm. -/
theorem step_of_selector {s : State} {w : Selector} {i : Instr} (hw : s.fetch = .selector w) (hi : decode w = .ok i) :
    step s = mapNext State.consume (exec i s) := by
  simp [step, hw, hi]

/-- A step that forms no selector is the phase's own. -/
theorem step_of_phaseStep {s : State} (h : s.fetch = .phaseStep) : step s = .next s.ownStep.consume := by
  simp [step, h]

/-- RESET is taken in any phase (R43). -/
theorem fetch_reset {s : State} (he : s.event = some .reset) : s.fetch = .selector (hostSelector .reset) := if_pos he

/-- In IDLE the offered event is fetched (R53). -/
theorem fetch_idle_event {s : State} {e : HostEvent} (hp : s.phase = .idle) (he : s.event = some e) :
    s.fetch = .selector (hostSelector e) := by
  by_cases hr : s.event = some .reset
  · rw [fetch_reset hr, ← Option.some.inj (he.symm.trans hr)]
  · have : e ≠ .reset := fun h => hr (h ▸ he)
    simp [State.fetch, hp, he, this]

/-- At rest nothing is fetched (R125). -/
theorem fetch_idle_none {s : State} (hp : s.phase = .idle) (he : s.event = none) : s.fetch = .phaseStep := by
  simp [State.fetch, hp, he]

/-- In D1 dispatch 1 forms the selector (R49). -/
theorem fetch_d1 {s : State} (hp : s.phase = .d1) (he : s.event ≠ some .reset) : s.fetch = s.fetchDispatch1 := by
  simp [State.fetch, hp, he]

/-- The receiver's phases run its arm (R49). -/
theorem fetch_receiver {s : State} {c : Count} (hp : s.phase = .waitRx ∨ s.phase = .rxUpd) (hc : s.cnt = some c)
    (he : s.event ≠ some .reset) : s.fetch = .selector (receiverSelector c) := by
  obtain hp | hp := hp <;> simp [State.fetch, Fetched.withCount, hp, hc, he]

/-- The transmitter's phases run its arm (R49). -/
theorem fetch_transmitter {s : State} {c : Count} (hp : s.phase = .waitTx ∨ s.phase = .txUpd) (hc : s.cnt = some c)
    (he : s.event ≠ some .reset) : s.fetch = .selector (transmitterSelector c) := by
  obtain hp | hp := hp <;> simp [State.fetch, Fetched.withCount, hp, hc, he]

/-- In D2 dispatch 2 forms the selector (R50). -/
theorem fetch_d2 {s : State} (hp : s.phase = .d2) (he : s.event ≠ some .reset) : s.fetch = s.fetchDispatch2 := by
  simp [State.fetch, hp, he]

/-- ACK and HALTED form no selector. -/
theorem fetch_ack_halted {s : State} (hp : s.phase = .ack ∨ s.phase = .halted) (he : s.event ≠ some .reset) :
    s.fetch = .phaseStep := by
  obtain hp | hp := hp <;> simp [State.fetch, hp, he]

/-- What the phase's own step does: the acknowledge in ACK, the next comparison in D2, nothing elsewhere. -/
theorem State.ownStep_cases (s : State) :
    (s.phase = .ack ∧ s.ownStep = s.ackReturn) ∨ (s.phase = .d2 ∧ s.ownStep = s.continueDispatch2) ∨
    (s.phase ≠ .ack ∧ s.phase ≠ .d2 ∧ s.ownStep = s) := by
  cases hp : s.phase <;> simp [State.ownStep, hp]

end Sys2Proof.Machine
end

