-- ==== Sys2Proof/Laws/Run.lean ====
section
/-! SUPPORT. Runs of several steps. -/

namespace Sys2Proof.Machine

/-- A run whose first step answers a next state goes on from it. -/
theorem run_succ {s t : State} (n : Nat) (h : step s = .next t) : core.run (n + 1) s = core.run n t := by
  have h' : core.step s = .next t := h
  simp only [Host.Core.run, h']

/-- A run of `m + n` steps is the run of `n` steps from where the run of `m` ends. -/
theorem run_add {s t : State} (m n : Nat) (h : core.run m s = .next t) : core.run (m + n) s = core.run n t := by
  induction m generalizing s with
  | zero => rw [Nat.zero_add, Host.Outcome.next.inj h]
  | succ m ih =>
    have e : m + 1 + n = m + n + 1 := by omega
    cases hs : step s with
    | next u => rw [e, run_succ (m + n) hs]; exact ih (run_succ m hs ▸ h)
    | fault r => nomatch r
    | refused r =>
      have hs' : core.step s = .refused r := hs
      simp [Host.Core.run, hs'] at h

end Sys2Proof.Machine
end

