-- ==== Sys2Proof/Laws/Stimulus.lean ====
section
/-! SUPPORT. What a stimulus script says of the inputs of its steps. -/

namespace Sys2Proof.Machine

/-- The inputs past the script are the free inputs. -/
theorem State.inputsAt_past {s : State} {k : Nat} (h : s.script.length ≤ k) :
    s.inputsAt k = s.freeInputs (s.tick + k) := by
  simp [State.inputsAt, List.drop_eq_nil_of_le h]

/-- Of the lines only RESET ends an endless wait (R118). -/
theorem Stimulus.holds_true {m : CauseMap} {x : Stimulus} (h : x.event ≠ .reset) : x.holds m true = true := by
  cases x <;> simp_all [Stimulus.holds, Stimulus.expand, Stimulus.event]

/-- While an endless wait holds, no step up to the next RESET has a ready condition, in the lines that follow and beyond
them (R56). -/
theorem streamFrom_noReady {p : Params} {d : Byte} {later : List Stimulus} {stream : InputStream}
    (h : streamFrom p d true later = some stream) {s : State} (pre : List Inputs)
    (hs : s.script = pre ++ stream.script) (hn : s.noReadyAfter = stream.noReadyAfter) {n : Nat}
    (he : ∀ k < n, (s.inputsAt (pre.length + k)).event ≠ some .reset) :
    ∀ k < n, (s.inputsAt (pre.length + k)).rrdyIn = 0 ∧ (s.inputsAt (pre.length + k)).xrdyIn = 0 := by
  induction later generalizing stream pre n with
  | nil =>
    obtain rfl := Option.some.inj h
    intro k _
    rw [State.inputsAt_past (by simp [hs])]
    exact State.freeInputs_noReady hn _
  | cons x xs ih =>
    simp only [streamFrom] at h
    split at h
    case h_2 => cases h
    case h_1 a b _ hb =>
      obtain rfl := Option.some.inj h
      have h0 : s.inputsAt pre.length = eventInputs x.event d := by simp [State.inputsAt, hs]
      rintro (_ | k) hk
      · simp [h0, eventInputs, quietInputs]
      · have hx : x.event ≠ .reset := by simpa [h0, eventInputs] using he 0 (by omega)
        rw [Stimulus.holds_true hx] at hb
        have e : ∀ j, (pre ++ [eventInputs x.event d]).length + j = pre.length + (j + 1) := by
          intro j; simp; omega
        have := ih hb (pre ++ [eventInputs x.event d]) (by simpa using hs) hn (n := n - 1)
          (fun j hj => e j ▸ he (j + 1) (by omega)) k (by omega)
        exact e k ▸ this

end Sys2Proof.Machine
end

