-- ==== Sys2Proof/Tests/Slice0.lean ====
section
/-! SUPPORT. The model's own tests: each is one check on small states, with the expected values of
spec/95_test_vectors.md or of the rule it names; then the witnesses, which show that the hypotheses of each statement can
be met together. -/

namespace Sys2Proof.Tests

open Sys2Proof.Machine

/-! ### Small states -/

/-- Parameters with values of the tests' own; `ACK_GROUP = 0x0008` as in 95_test_vectors.md. -/
def params : Params where
  ownAddr    := 0x2A
  clkPsc     := 9
  clkLow     := 10
  clkHigh    := 5
  ier        := { undef := false, nack := true, rrdy := false, xrdy := false, scd := true, aas := true }
  fdf        := 0
  free       := 1
  ackGroup   := 8
  causeMap   := Config.defaultCauseMap
  dirTxValue := 1
  d2Sampling := .perArm

/-- Inputs with the cause code `c`, the received byte 0xA5 and the draw 0x77. -/
def cause (c : CauseCode) : Inputs := quietInputs c 0xA5 0x77

/-- A configured block in phase `p` with counter `c` and the inputs `x` for its next step. -/
def stateAt (p : Phase) (c : Count) (x : Inputs) : State where
  cnt          := some c
  phase        := p
  d2i          := 0
  configured   := true
  role         := .idleUnaddressed
  dxr          := 0x11
  cfg          := some (configImage params)
  fault        := none
  trace        := []
  params       := params
  script       := [x]
  noReadyAfter := false
  tick         := 0

/-- The same in dispatch 2, at comparison `i`. -/
def compareAt (i : Fin 5) (x : Inputs) : State := { stateAt .d2 2 x with d2i := i }

/-- The same under `Single`. -/
def single (s : State) : State := { s with params := { s.params with d2Sampling := .single } }

/-- A block that was never configured. -/
def unconfigured (x : Inputs) : State := { stateAt .idle 0 x with cnt := none, configured := false, cfg := none }

/-- A halted block. -/
def halted (x : Inputs) : State := { stateAt .halted 2 x with fault := some .notAcknowledged }

/-- The next state, if the step answers one. -/
def after (s : State) : Option State :=
  match step s with
  | .next t                => some t
  | .fault _ | .refused _ => none

/-- What the tests look at: phase, counter, transmit register, role and event words. -/
structure View where
  phase : Phase
  cnt   : Option Count
  dxr   : Byte
  role  : Role
  words : List EventWord
deriving DecidableEq, Repr

/-- The view of the next state, if the step answers one. -/
def view (s : State) : Option View :=
  (after s).map fun t => ⟨t.phase, t.cnt, t.dxr, t.role, t.trace.map Event.word⟩

/-! ### Well-formed terms -/

theorem test_wellFormed_refuses_rxCx_of_an_earlier_row :
    (Instr.rxCx 1).wellFormed = false ∧ (Instr.rxCx 2).wellFormed = false := by decide

theorem test_wellFormed_refuses_txCx_of_an_earlier_row :
    (Instr.txCx 0).wellFormed = false ∧ (Instr.txCx 1).wellFormed = false ∧ (Instr.txCx 2).wellFormed = false := by
  decide

theorem test_wellFormed_admits_the_other_counters :
    (Instr.rxCx 0).wellFormed = true ∧ (Instr.rxCx 0xFFFF).wellFormed = true ∧ (Instr.txCx 3).wellFormed = true := by
  decide

/-! ### Decoding: words written out from the fields of R48 -/

theorem test_decode_host_commands :
    decode 0b000000000000000000000000 = .ok .reset ∧
    decode 0b000010000000000000000000 = .ok .configure ∧
    decode 0b000100000000000000000000 = .ok .invoke := ⟨rfl, rfl, rfl⟩

theorem test_decode_receiver_arms :
    decode 0b011110000000000000000010 = .ok .rxC2 ∧
    decode 0b011110000000000000000001 = .ok .rxC1 ∧
    decode 0b011110000000000000000000 = .ok (.rxCx 0) ∧
    decode 0b011110001111111111111111 = .ok (.rxCx 0xFFFF) := ⟨rfl, rfl, rfl, rfl⟩

theorem test_decode_transmitter_arms :
    decode 0b011110100000000000000000 = .ok .txC0 ∧
    decode 0b011110100000000000000001 = .ok .txC1 ∧
    decode 0b011110100000000000000010 = .ok .txC2 ∧
    decode 0b011110100000000000000011 = .ok (.txCx 3) := ⟨rfl, rfl, rfl, rfl⟩

theorem test_decode_entry_dispatch_arms :
    decode 0b011111000000000000000000 = .ok .dirBad ∧
    decode 0b010000000000000000000000 = .ok .d1PassUndef ∧
    decode 0b010100000000000000000000 = .ok .d1PassNack ∧
    decode 0b011000000000000000000000 = .ok .d1PassRrdy ∧
    decode 0b011010000000000000000000 = .ok .d1PassXrdy ∧
    decode 0b011100000000000000000000 = .ok .d1PassScd := ⟨rfl, rfl, rfl, rfl, rfl, rfl⟩

theorem test_decode_dispatch_two_arms :
    decode 0b100000000000000000000000 = .ok .d2Undef ∧
    decode 0b101100000000000000000000 = .ok .d2Scd ∧
    decode 0b101010000000000000000000 = .ok .d2Xrdy ∧
    decode 0b101000000000000000000000 = .ok .d2Rrdy ∧
    decode 0b100100000000000000000000 = .ok .d2Nack ∧
    decode 0b101110000000000000000000 = .ok .d2None := ⟨rfl, rfl, rfl, rfl, rfl, rfl⟩

/-- One word of each kind of reserved encoding of R52. -/
theorem test_decode_refuses_reserved_words :
    decode 0b110000000000000000000000 = .error .reservedStage ∧
    decode 0b011110010000000000000010 = .error .reservedBit ∧
    decode 0b011111100000000000000000 = .error .reservedDirection ∧
    decode 0b000110000000000000000000 = .error .reservedCommand ∧
    decode 0b010010000000000000000000 = .error .reservedClass ∧
    decode 0b100110000000000000000000 = .error .reservedClass ∧
    decode 0b011111000000000000000001 = .error .nonzeroField ∧
    decode 0b000010100000000000000000 = .error .nonzeroField :=
  ⟨rfl, rfl, rfl, rfl, rfl, rfl, rfl, rfl⟩

theorem test_decodeTableWord_reads_the_low_bits :
    decodeTableWord 24 0x7A0003 = some (.txCx 3) ∧ decodeTableWord 16 0x7A0000 = some .reset ∧
    decodeTableWord 24 0xC00000 = none ∧ decodeTableWord 25 0 = none := ⟨rfl, rfl, rfl, rfl⟩

/-- From reset, a placed word is the arm the very next step runs. -/
theorem test_withFetchWord_from_reset :
    (after (State.reset.withFetchWord 24 0x780002)).map State.phase = some .waitRx ∧
    (after (State.reset.withFetchWord 24 0x900000)).map State.fault = some (some .notAcknowledged) ∧
    (after (State.reset.withFetchWord 24 0xB80000)).map State.phase = some .ack := ⟨rfl, rfl, rfl⟩

/-! ### Host commands -/

/-- R116 example: RESET from HALTED. -/
theorem test_reset_leaves_halted :
    view (halted (eventInputs .reset 0x77)) = some ⟨.idle, none, 0x77, .idleUnaddressed, []⟩ ∧
    (after (halted (eventInputs .reset 0x77))).map (fun t => (t.fault, t.configured)) = some (none, false) := by decide

/-- CFG-2. -/
theorem test_configure_primes_the_counter :
    view (stateAt .idle 0 (eventInputs .configure 0x77)) =
      some ⟨.idle, some 2, 0x77, .idleUnaddressed, [0x300000, 0x200002]⟩ := by decide

/-- CFG-4: no step in HALTED. -/
theorem test_configure_has_no_step_in_halted :
    view (halted (eventInputs .configure 0x77)) = some ⟨.halted, some 2, 0x11, .idleUnaddressed, []⟩ := by decide

/-- R68 example. -/
theorem test_invoke_enters_dispatch_one :
    view (stateAt .idle 2 (eventInputs .invoke 0)) = some ⟨.d1, some 2, 0x11, .idleUnaddressed, []⟩ := by decide

/-- D1-1: HALT(6) and no acknowledge. -/
theorem test_invoke_before_configure_halts :
    view (unconfigured (eventInputs .invoke 0)) = some ⟨.halted, none, 0x11, .idleUnaddressed, [0x500006]⟩ := by decide

/-! ### Dispatch 1 and acknowledge -/

/-- R71 example: the direction bit 0 samples as Receiver. -/
theorem test_receiver_dispatch :
    view (stateAt .d1 2 (cause 0b111)) = some ⟨.waitRx, some 2, 0x11, .addressedRx, []⟩ := by decide

/-- D1-7: with `DIR_TX_VALUE = 0` the bit 0 samples as Transmitter. -/
theorem test_direction_value_swaps_the_roles :
    view ({ stateAt .d1 2 (cause 0b111) with params := { params with dirTxValue := 0 } } : State) =
      some ⟨.waitTx, some 2, 0x11, .addressedTx, []⟩ := by decide

/-- D1-2. -/
theorem test_unrecognised_direction_halts :
    view (stateAt .d1 2 { cause 0b111 with dirIn := .unrecognised }) =
      some ⟨.halted, some 2, 0x11, .idleUnaddressed, [0x500002, 0x400008]⟩ := by decide

/-- D1-4: an undefined first sample is harmless. -/
theorem test_undefined_cause_passes_dispatch_one :
    view (stateAt .d1 0 (cause 0b011)) = some ⟨.d2, some 0, 0x11, .idleUnaddressed, []⟩ := by decide

/-- D1-3: a first sample of a stop does not reconfigure. -/
theorem test_stop_cause_passes_dispatch_one :
    view (stateAt .d1 2 (cause 0b110)) = some ⟨.d2, some 2, 0x11, .idleUnaddressed, []⟩ := by decide

/-- R70: the three other classes pass. -/
theorem test_other_causes_pass_dispatch_one :
    [0b010, 0b100, 0b101].map (fun c => view (stateAt .d1 2 (cause c))) =
      List.replicate 3 (some ⟨.d2, some 2, 0x11, .idleUnaddressed, []⟩) := by decide

/-- R73 example. -/
theorem test_acknowledge_returns :
    view (stateAt .ack 2 (cause 0)) = some ⟨.idle, some 2, 0x11, .idleUnaddressed, [0x400008]⟩ := by decide

/-! ### The receiver -/

/-- R77 example: 0 holds, 1 ends the wait. -/
theorem test_receive_wait_polls :
    view (stateAt .waitRx 0 (cause 0)) = some ⟨.waitRx, some 0, 0x11, .idleUnaddressed, []⟩ ∧
    view (stateAt .waitRx 0 { cause 0 with rrdyIn := 1 }) = some ⟨.rxUpd, some 0, 0x11, .idleUnaddressed, []⟩ := by
  decide

/-- RX-1: the counter passes through 1. -/
theorem test_rxC2_echoes :
    view (stateAt .rxUpd 2 (cause 0)) =
      some ⟨.d2, some 0, 0xA5, .idleUnaddressed, [0x1000A5, 0x200001, 0x200000]⟩ := by decide

/-- R80 example. -/
theorem test_rxC1_reads_no_data :
    view (stateAt .rxUpd 1 (cause 0)) = some ⟨.d2, some 0, 0x11, .idleUnaddressed, [0x200000]⟩ := by decide

/-- R81 example, and the counter 3. -/
theorem test_rxCx_writes_nothing :
    view (stateAt .rxUpd 0 (cause 0)) = some ⟨.d2, some 0, 0x11, .idleUnaddressed, []⟩ ∧
    view (stateAt .rxUpd 3 (cause 0)) = some ⟨.d2, some 3, 0x11, .idleUnaddressed, []⟩ := by decide

/-! ### The transmitter -/

/-- R83: 0 holds, 1 ends the wait; the receiver's condition does not. -/
theorem test_transmit_wait_polls :
    view (stateAt .waitTx 2 { cause 0 with rrdyIn := 1 }) = some ⟨.waitTx, some 2, 0x11, .idleUnaddressed, []⟩ ∧
    view (stateAt .waitTx 2 { cause 0 with xrdyIn := 1 }) = some ⟨.txUpd, some 2, 0x11, .idleUnaddressed, []⟩ := by
  decide

/-- L1-2 row 1. -/
theorem test_txC0_writes_no_data :
    view (stateAt .txUpd 0 (cause 0)) = some ⟨.d2, some 1, 0x11, .idleUnaddressed, [0x200001]⟩ := by decide

/-- L1-2 row 2, with the byte 0xA5. -/
theorem test_txC1_echoes :
    view (stateAt .txUpd 1 (cause 0)) = some ⟨.d2, some 2, 0xA5, .idleUnaddressed, [0x1000A5, 0x200002]⟩ := by decide

/-- L1-2 row 3. -/
theorem test_txC2_writes_constant_a :
    view (stateAt .txUpd 2 (cause 0)) = some ⟨.d2, some 3, 0x55, .idleUnaddressed, [0x100055, 0x200003]⟩ := by decide

/-- L1-2 row 4: the counter wraps to 2. -/
theorem test_txCx_wraps :
    view (stateAt .txUpd 3 (cause 0)) = some ⟨.d2, some 2, 0xFF, .idleUnaddressed, [0x1000FF, 0x200002]⟩ := by decide

/-! ### Dispatch 2 -/

/-- L1-5: the four fatal causes, each at its comparison. -/
theorem test_fatal_causes_halt :
    [(0, 0b000), (2, 0b101), (3, 0b100), (4, 0b010)].map (fun x => view (compareAt x.1 (cause x.2))) =
      [0x500001, 0x500003, 0x500004, 0x500005].map
        (fun w => some ⟨.halted, some 2, 0x11, .idleUnaddressed, [w, 0x400008]⟩) := by decide

/-- R91: a sample whose class is another comparison's fires nothing. -/
theorem test_perArm_ignores_other_classes :
    (after (compareAt 1 (cause 0b010))).map (fun t => (t.phase, t.d2i, t.trace)) = some (.d2, 2, []) ∧
    (after (compareAt 4 (cause 0b000))).map (fun t => (t.phase, t.d2i, t.trace)) = some (.ack, 0, []) := by decide

/-- L1-4 under `Single`. -/
theorem test_stop_reconfigures :
    view (single (stateAt .d2 1 (cause 0b110))) =
      some ⟨.ack, some 2, 0x77, .idleUnaddressed, [0x300000, 0x200002]⟩ := by decide

/-- R93 under `PerArm`: the next comparison follows. -/
theorem test_stop_continues_perArm :
    (after (compareAt 1 (cause 0b110))).map (fun t => (t.phase, t.d2i, t.cnt)) = some (.d2, 2, some 2) := by decide

/-- R97 under `Single`. -/
theorem test_d2None_goes_to_acknowledge :
    view (single (stateAt .d2 0 (cause 0b111))) = some ⟨.ack, some 0, 0x11, .idleUnaddressed, []⟩ := by decide

/-- RX-1 takes ten steps, a stop takes eight (P1). -/
theorem test_script_lengths :
    (Stimulus.inputs params 0 (.mwrite 0xA5)).map List.length = some 10 ∧
    (Stimulus.inputs params 0 .stop).map List.length = some 8 := by decide

/-- R57: `FAULT_CAUSE` is for the four fatal classes, the ones of R92 and R94 to R96. -/
theorem test_fault_cause_expands_to_the_fatal_classes :
    [FatalCause.undef, .xrdy, .rrdy, .nack].map (fun k => (Stimulus.faultCause k).expand) =
      [CauseClass.undef, .xrdy, .rrdy, .nack].map (fun k => .invoke { c1 := .named k, c2 := .named k }) := rfl

/-- P5 up to its stop: the wait never ends, the later line is the step of its event, and no ready condition follows. -/
theorem test_endless_wait_holds :
    (scriptInputs params 0 [.invoke { c1 := .named .aas, dir := some .transmitter, wait := none, c2 := .named .aas },
      .stop]).map (fun x => (x.script.map Inputs.event, x.script.map Inputs.xrdyIn, x.noReadyAfter)) =
    some ([some .invoke, none, none, some .invoke], [0, 0, 0, 0], true) := by decide

/-- P5: RESET ends the endless wait. -/
theorem test_reset_ends_endless_wait :
    (scriptInputs params 0 [.invoke { c1 := .named .aas, dir := some .transmitter, wait := none, c2 := .named .aas },
      .reset]).map InputStream.noReadyAfter = some false := by decide

/-! ### Witnesses: hypotheses that are met -/

theorem witness_ArmSelectorsDecodeToTheArm :
    (Instr.rxCx 0xFFFF).wellFormed = true ∧ (Instr.txCx 3).wellFormed = true ∧ Instr.d2None.wellFormed = true := by decide

theorem witness_AcceptedSelectorsEncodeBack :
    decode 0x780003 = .ok (.rxCx 3) ∧ decode 0x7AFFFF = .ok (.txCx 0xFFFF) := ⟨rfl, rfl⟩

theorem witness_ReservedSelectorsRefusedAndNeverFormed :
    ReservedSelector 0xC00000 ∧ ReservedSelector 0x7C0001 ∧ ¬ReservedSelector 0x7AFFFF ∧
    (stateAt .d1 2 (cause 0b111)).fetch = .selector 0x780002 := by
  unfold ReservedSelector hasDirection; decide

theorem witness_DefaultMapClassifiesTheEightCodes :
    (stateAt .idle 0 (cause 0)).params.causeMap = Config.defaultCauseMap := rfl

theorem witness_StepRunsTheDecodedArm :
    (stateAt .d1 2 (cause 0b111)).fetch = .selector 0x780002 ∧ decode 0x780002 = .ok .rxC2 := ⟨rfl, rfl⟩

theorem witness_PlacedSelectorIsTheNextArmRun :
    (Instr.txCx 0xFFFF).wellFormed = true ∧ (Instr.rxCx 0).wellFormed = true := by decide

theorem witness_HostEventsOutsideIdleHaveNoStep :
    (stateAt .waitTx 2 (cause 0)).phase ≠ .idle ∧ HostEvent.configure ≠ .reset ∧ HostEvent.invoke ≠ .reset := by decide

/-- One state that meets every clause's premise, and the boundary of the clauses on the update phases. -/
theorem witness_PortsAreSampledOnlyByTheirRules :
    (let s := stateAt .idle 2 (cause 0)
     s.phase ≠ .d1 ∧ s.phase ≠ .d2 ∧ ¬(s.phase = .d1 ∧ s.sampleCause = .aas) ∧ s.phase ≠ .waitRx ∧ s.phase ≠ .waitTx ∧
     ¬(s.phase = .rxUpd ∧ s.cnt = some 2) ∧ ¬(s.phase = .txUpd ∧ s.cnt = some 1)) ∧
    (let s := stateAt .rxUpd 1 (cause 0)
     ¬(s.phase = .rxUpd ∧ s.cnt = some 2) ∧ ¬(s.phase = .txUpd ∧ s.cnt = some 1)) := by decide

theorem witness_TheDrawReachesOnlyTheTransmitRegister :
    step (stateAt .d1 2 (cause 0b110)) =
      .next ({ stateAt .d1 2 (cause 0b110) with phase := .d2 } : State).consume := rfl

theorem witness_ResetSetsEveryFieldInEveryPhase :
    (halted (eventInputs .reset 0)).event = some .reset ∧
    (stateAt .waitRx 2 (eventInputs .reset 0)).event = some .reset := by decide

theorem witness_ConfigureWritesTheImageAndPrimesTheCounter : (unconfigured (cause 0)).phase = .idle := rfl

theorem witness_ConfiguringTwiceIsConfiguringOnce :
    (let s : State := { unconfigured (cause 0) with
        script := [eventInputs .configure 1, eventInputs .configure 2] }
     s.phase = .idle ∧ s.script = [eventInputs .configure 1, eventInputs .configure 2] ∧
     (eventInputs .configure 1).event = some .configure ∧ (eventInputs .configure 2).event = some .configure) := by decide

theorem witness_InvokeEntersDispatchOneOrFaultsUnconfigured :
    ((stateAt .idle 2 (cause 0)).phase = .idle ∧ (stateAt .idle 2 (cause 0)).configured = true) ∧
    ((unconfigured (cause 0)).phase = .idle ∧ (unconfigured (cause 0)).configured = false) ∧
    (halted (cause 0)).phase ≠ .idle := by decide

theorem witness_DispatchOnePassesOtherCauses :
    (Instr.d1PassNack, CauseClass.nack) ∈ [(Instr.d1PassUndef, CauseClass.undef), (.d1PassNack, .nack),
      (.d1PassRrdy, .rrdy), (.d1PassXrdy, .xrdy), (.d1PassScd, .scd)] ∧
    (stateAt .d1 2 (cause 0b010)).phase = .d1 ∧ (stateAt .d1 2 (cause 0b010)).NotReset ∧
    (stateAt .d1 2 (cause 0b010)).sampleCause = .nack := by
  unfold State.NotReset; decide

theorem witness_UnrecognisedDirectionHalts : (stateAt .d1 2 (cause 0b111)).phase = .d1 := rfl

/-- Each of the three directions. -/
theorem witness_AddressedDispatchFollowsTheDirection :
    [DirStatus.bit 0, .bit 1, .unrecognised].map
      (fun d =>
        let s := stateAt .d1 3 { cause 0b111 with dirIn := d }
        (s.phase, s.event, s.sampleCause, s.cnt, s.sampleDir)) =
    [DirSample.receiver, .transmitter, .unrecognised].map
      (fun d => (Phase.d1, (none : Option HostEvent), CauseClass.aas, some (3 : Count), d)) := by decide

theorem witness_AcknowledgeReturnsToIdle :
    (stateAt .ack 2 (cause 0)).phase = .ack ∧ (stateAt .ack 2 (cause 0)).NotReset := by
  unfold State.NotReset; decide

/-- The catch-all arm at its lowest and highest counter, in D1 and in WAIT_RX with either ready condition. -/
theorem witness_ReceiverArmsDispatchAndWait :
    (Instr.rxCx 0).wellFormed = true ∧ (Instr.rxCx 0xFFFF).wellFormed = true ∧
    (∀ c : Count, (Instr.rxCx c, c) ∈ [(Instr.rxC2, (2 : Count)), (.rxC1, 1), (.rxCx c, c)] ∧
      (stateAt .d1 c (cause 0b111)).cnt = some c) ∧
    ((stateAt .waitRx 2 { cause 0 with rrdyIn := 1 }).phase = .waitRx ∧
      (stateAt .waitRx 2 { cause 0 with rrdyIn := 1 }).sampleRrdy = 1) ∧
    ((stateAt .waitRx 1 (cause 0)).sampleRrdy = 0 ∧ (stateAt .waitRx 1 (cause 0)).NotReset) :=
  ⟨rfl, rfl, fun c => ⟨by simp, rfl⟩, ⟨rfl, rfl⟩, rfl, nofun⟩

/-- For RxC2EchoesAndCountsToZero, RxC1CountsToZero, RxCxWritesNothing and ReceiverUpdateTestsTheCounterTwice: every
counter, and the catch-all's lowest and highest. -/
theorem witness_ReceiverUpdates :
    ((0 : Count) ≠ 1 ∧ (0 : Count) ≠ 2 ∧ (0xFFFF : Count) ≠ 1 ∧ (0xFFFF : Count) ≠ 2) ∧
    ∀ c : Count, (stateAt .rxUpd c (cause 0)).phase = .rxUpd ∧ (stateAt .rxUpd c (cause 0)).cnt = some c ∧
      (stateAt .rxUpd c (cause 0)).NotReset := ⟨by decide, fun _ => ⟨rfl, rfl, nofun⟩⟩

/-- The catch-all arm at its lowest and highest counter, in D1 and in WAIT_TX with either ready condition. -/
theorem witness_TransmitterArmsDispatchAndWait :
    (Instr.txCx 3).wellFormed = true ∧ (Instr.txCx 0xFFFF).wellFormed = true ∧
    (∀ c : Count, (Instr.txCx c, c) ∈ [(Instr.txC0, (0 : Count)), (.txC1, 1), (.txC2, 2), (.txCx c, c)] ∧
      (stateAt .d1 c (cause 0b111)).cnt = some c) ∧
    ((stateAt .waitTx 2 { cause 0 with xrdyIn := 1 }).phase = .waitTx ∧
      (stateAt .waitTx 2 { cause 0 with xrdyIn := 1 }).sampleXrdy = 1) ∧
    ((stateAt .waitTx 1 (cause 0)).sampleXrdy = 0 ∧ (stateAt .waitTx 1 (cause 0)).NotReset) :=
  ⟨rfl, rfl, fun c => ⟨by simp, rfl⟩, ⟨rfl, rfl⟩, rfl, nofun⟩

/-- For TxC0AlignsTheCounter, TxC1EchoesTheReceiveRegister, TxC2WritesConstantA, TxCxWritesConstantBAndWraps and
TransmitterUpdateRunsOneArm: every counter, and the catch-all's lowest and highest. -/
theorem witness_TransmitterUpdates :
    ((3 : Count) ≠ 0 ∧ (3 : Count) ≠ 1 ∧ (3 : Count) ≠ 2 ∧ (0xFFFF : Count) ≠ 0) ∧
    ∀ c : Count, (stateAt .txUpd c (cause 0)).phase = .txUpd ∧ (stateAt .txUpd c (cause 0)).cnt = some c ∧
      (stateAt .txUpd c (cause 0)).NotReset := ⟨by decide, fun _ => ⟨rfl, rfl, nofun⟩⟩

/-- Every class fires at its comparison under `PerArm`, and under `Single`. -/
theorem witness_FatalCausesHaltDispatchTwo :
    (∀ x ∈ [((0 : Fin 5), CauseClass.undef), (2, .xrdy), (3, .rrdy), (4, .nack)],
      (compareAt x.1 (cause 0)).phase = .d2 ∧ (compareAt x.1 (cause 0)).dispatch2Fires x.2 = true) ∧
    (single (compareAt 0 (cause 0))).dispatch2Fires .nack = true := by decide

theorem witness_StopConditionReconfigures :
    ((compareAt 1 (cause 0b110)).phase = .d2 ∧ (compareAt 1 (cause 0b110)).dispatch2Fires .scd = true ∧
      (compareAt 1 (cause 0b110)).params.d2Sampling = .perArm) ∧
    ((single (compareAt 0 (cause 0b110))).dispatch2Fires .scd = true ∧
      (single (compareAt 0 (cause 0b110))).params.d2Sampling = .single) := by decide

/-- Both samplings; the comparisons 0 and 4. -/
theorem witness_NothingFiresOnAddressedAsSlave :
    ((single (compareAt 0 (cause 0b111))).phase = .d2 ∧ (single (compareAt 0 (cause 0b111))).NotReset ∧
      (single (compareAt 0 (cause 0b111))).sampleCause = .aas) ∧
    ∀ i ∈ [(0 : Fin 5), 4], (compareAt i (cause 0b111)).NotReset ∧
      (compareAt i (cause 0b111)).params.d2Sampling = .perArm ∧
      (compareAt i (cause 0b111)).sampleCause ≠ comparedClass (compareAt i (cause 0b111)).d2i := by
  unfold State.NotReset; decide

theorem witness_SingleSamplingFiresTheArmOfItsClass :
    (single (compareAt 0 (cause 0))).phase = .d2 ∧ (single (compareAt 0 (cause 0))).NotReset ∧
    (single (compareAt 0 (cause 0))).params.d2Sampling = .single := by
  unfold State.NotReset; decide

theorem witness_PerArmSamplingComparesInOrder :
    (compareAt 4 (cause 0)).phase = .d2 ∧ (compareAt 4 (cause 0)).NotReset ∧
    (compareAt 4 (cause 0)).params.d2Sampling = .perArm := by
  unfold State.NotReset; decide

theorem witness_EqualSamplesMakeBothSamplingsAgree :
    (compareAt 0 (cause 0b110)).phase = .d2 ∧ (compareAt 0 (cause 0b110)).d2i = 0 ∧ (cause 0b110).event = none := by
  decide

theorem witness_FatalSamplesHaltWithoutRegisterWrites :
    (compareAt 4 (cause 0b010)).phase = .d2 ∧ (compareAt 4 (cause 0b010)).NotReset ∧
    (compareAt 4 (cause 0b010)).sampleCause ∈ [CauseClass.undef, .xrdy, .rrdy, .nack] ∧
    (compareAt 4 (cause 0b010)).dispatch2Fires (compareAt 4 (cause 0b010)).sampleCause = true := by
  unfold State.NotReset; decide

/-- A halt from dispatch 2 and one from IDLE. -/
theorem witness_FatalPathWritesNothingElse :
    ((compareAt 4 (cause 0b010)).phase ≠ .halted ∧
      (after (compareAt 4 (cause 0b010))).map State.phase = some .halted) ∧
    ((unconfigured (eventInputs .invoke 0)).phase ≠ .halted ∧
      (after (unconfigured (eventInputs .invoke 0))).map State.phase = some .halted) := by decide

theorem witness_HaltedAbsorbsUntilReset :
    (halted (eventInputs .invoke 0)).Faulted ∧ (halted (eventInputs .invoke 0)).NoResetFor 1 := by
  unfold State.Faulted State.NoResetFor; decide

/-- Each of the two waits. -/
theorem witness_WaitsHoldWithoutTheReadyCondition :
    (let s := stateAt .waitRx 2 (cause 0b110)
     s.cnt ≠ none ∧ s.NoResetFor 1 ∧ s.phase = .waitRx ∧ ∀ k < 1, (s.inputsAt k).rrdyIn = 0) ∧
    (let s := stateAt .waitTx 2 (eventInputs .configure 0)
     s.cnt ≠ none ∧ s.NoResetFor 1 ∧ s.phase = .waitTx ∧ ∀ k < 1, (s.inputsAt k).xrdyIn = 0) := by
  unfold State.NoResetFor; decide

/-- Steps without RESET that answer a next state: for TraceOnlyGrowsBetweenResets, PhasesFollowTheInvocationSequence,
WorkingPhasesMoveOn and OneAcknowledgePerInvocation. -/
theorem witness_StepsWithoutReset :
    (stateAt .d1 2 (cause 0b111)).NotReset ∧ (after (stateAt .d1 2 (cause 0b111))).map State.phase = some .waitRx ∧
    (stateAt .d2 2 (cause 0b111)).NotReset ∧ (after (stateAt .d2 2 (cause 0b111))).map State.phase = some .d2 ∧
    (stateAt .ack 2 (cause 0b111)).NotReset ∧ (after (stateAt .ack 2 (cause 0b111))).map State.phase = some .idle := by
  unfold State.NotReset; decide

/-- An arm that writes most fields, and the two steps that form no selector. -/
theorem witness_FieldsChangeOnlyByTheirWriters :
    exec (.txCx 3) (stateAt .txUpd 3 (cause 0)) =
      .next { stateAt .txUpd 3 (cause 0) with
        dxr := 0xFF, cnt := some 2, phase := .d2, trace := [.dxrWrite 0xFF, .cntWrite 2] } ∧
    ((stateAt .ack 2 (cause 0)).fetch = .phaseStep ∧ (after (stateAt .ack 2 (cause 0))).isSome = true) ∧
    ((compareAt 1 (cause 0)).fetch = .phaseStep ∧ (after (compareAt 1 (cause 0))).isSome = true) :=
  ⟨rfl, ⟨rfl, rfl⟩, rfl, rfl⟩

/-- A state that meets every clause's premise, and the neighbours of each clause's phases. -/
theorem witness_ArmsHaveNoStepElsewhere :
    (let s := halted (cause 0)
     s.phase ≠ .idle ∧ s.phase ≠ .d1 ∧ s.phase ∉ [Phase.d1, .waitRx, .rxUpd] ∧ s.phase ∉ [Phase.d1, .waitTx, .txUpd] ∧
     s.phase ≠ .d2) ∧
    (stateAt .d1 1 (cause 0)).cnt ≠ some 2 ∧ (compareAt 1 (cause 0)).dispatch2Fires .undef = false := by decide

/-- A state in an invocation that meets the invariant, and whose trace agrees with it: for EveryStepKeepsTheInvariant,
EveryStepKeepsTheTraceInAgreement and NoStepIsRefusedUnderTheInvariant. -/
def running : State :=
  { stateAt .d1 2 (cause 0b111) with trace := [.cfgWrite (configImage params), .cntWrite 2] }

theorem witness_InvariantHoldsInAnInvocation : running.Inv where
  halted       := by decide
  index        := by decide
  counted      := by decide
  image        := rfl
  entered      := by decide
  range        := fun _ h => Option.some.inj h ▸ by decide
  receiving    := by decide
  transmitting := by decide
  unaddressed  := by decide

theorem witness_TraceAgreesInAnInvocation : running.TraceAgrees := by
  constructor <;> simp [running, stateAt, lastCount, lastImage, lastByte, halts]

theorem witness_RunningSteps : (after running).map State.phase = some .waitRx := by decide

/-- Dispatch 2 at the comparison with a stop, seeing a stop and then the cause codes `a`, `b` and `c`. -/
def stopThen (a b c : CauseCode) : State :=
  { compareAt 1 (cause 0b110) with script := [0b110, a, b, c, 0b111].map cause }

/-- The three ends: a later fatal sample at the last comparison, none, and `Single`. -/
theorem witness_StopConditionLeavesTheSlaveRearmed :
    (let s := stopThen 0b111 0b111 0b010
     s.phase = .d2 ∧ s.sampleCause = .scd ∧ s.dispatch2Fires .scd = true ∧ s.NoEventFor 5 ∧
     s.params.d2Sampling = .perArm ∧ s.classify (s.inputsAt 3).causeIn = .nack) ∧
    (let s := stopThen 0b111 0b111 0b111
     s.sampleCause = .scd ∧ s.dispatch2Fires .scd = true ∧ s.NoEventFor 5 ∧
     s.classify (s.inputsAt 1).causeIn ≠ .xrdy ∧ s.classify (s.inputsAt 2).causeIn ≠ .rrdy ∧
     s.classify (s.inputsAt 3).causeIn ≠ .nack) ∧
    (let s := single (stopThen 0b101 0b100 0b010)
     s.sampleCause = .scd ∧ s.dispatch2Fires .scd = true ∧ s.NoEventFor 2) := by
  unfold State.NoEventFor; decide

/-- The inputs of a line under the tests' parameters. -/
def lineInputs (line : Stimulus) : List Inputs := (line.inputs params 0).getD []

/-- A write of 0x11 that waits one poll, and a read that waits none. -/
def writeLine : Stimulus :=
  .invoke { c1 := .named .aas, dir := some .receiver, wait := some 1, drr := 0x11, c2 := .named .aas }
def readLine : Stimulus :=
  .invoke { c1 := .named .aas, dir := some .transmitter, wait := some 0, drr := 0x22, c2 := .named .aas }

/-- One state whose script is the write, the read and a further record. -/
def writeThenRead : State :=
  { stateAt .idle 2 (cause 0) with script := lineInputs writeLine ++ lineInputs readLine ++ [cause 0] }

theorem witness_ReceivedByteStaysForTheNextRead :
    (writeThenRead.phase = .idle ∧ writeThenRead.configured = true ∧ writeThenRead.cnt = some 2 ∧
      writeThenRead.d2i = 0) ∧
    writeLine.inputs writeThenRead.params 0 = some (lineInputs writeLine) ∧
    readLine.inputs writeThenRead.params 0 = some (lineInputs readLine) ∧
    writeThenRead.script = lineInputs writeLine ++ lineInputs readLine ++ [cause 0] :=
  ⟨⟨rfl, rfl, rfl, rfl⟩, rfl, rfl, rfl⟩

/-- The inputs of two reads. -/
def twoReads : InputStream := (scriptInputs params 0 ([0x22, 0x23].map .mreadEcho)).getD ⟨[], false⟩

/-- States with either counter whose script is the two reads and a further record. -/
theorem witness_ReadsWriteTheTransmitSequence :
    ∀ c ∈ [(0 : Count), 2],
      let s : State := { stateAt .idle c (cause 0) with script := twoReads.script ++ [cause 0] }
      s.phase = .idle ∧ s.configured = true ∧ s.d2i = 0 ∧ s.cnt = some c ∧
      scriptInputs s.params 0 ([0x22, 0x23].map .mreadEcho) = some twoReads ∧
      s.script = twoReads.script ++ [cause 0] ∧ twoReads.script.length = 20 := by
  intro c _
  exact ⟨rfl, rfl, rfl, rfl, rfl, rfl, rfl⟩

theorem witness_RestHoldsTheState :
    (stateAt .idle 2 (cause 0)).AtRest ∧ (stateAt .idle 2 (cause 0)).phase = .idle ∧
    (stateAt .idle 2 (cause 0)).NoEventFor 1 := by
  unfold State.AtRest State.NoEventFor; decide

/-- An endless write line, a read line after it, and a state that loads both. -/
def endlessWrite : InvokeCommand := { c1 := .named .aas, dir := some .receiver, wait := none, c2 := .named .aas }
def endlessStream : InputStream := (scriptInputs params 0 [.invoke endlessWrite, .mread]).getD ⟨[], false⟩

theorem witness_EndlessWaitLineHangsUntilReset :
    (let s := stateAt .idle 2 (cause 0)
     s.phase = .idle ∧ s.configured = true ∧ s.cnt ≠ none ∧ endlessWrite.endless s.params.causeMap = true ∧
     scriptInputs s.params 0 [.invoke endlessWrite, .mread] = some endlessStream ∧
     (s.load endlessStream).NoResetFor (2 + 2)) := by
  unfold State.NoResetFor; decide

end Sys2Proof.Tests
end

section
/-! The fields of an output event word (30_encoding.md rule R58): what `eventWord` puts together, the three extractions
take apart again. -/

namespace Sys2Proof.Machine

@[simp] theorem eventWord_payload (kind : BitVec 4) (payload : BitVec 16) :
    (eventWord kind payload).extractLsb' 0 16 = payload := by
  rw [eventWord, BitVec.extractLsb'_append_eq_of_add_le (by omega), BitVec.extractLsb'_eq_self]

@[simp] theorem eventWord_reservedBits (kind : BitVec 4) (payload : BitVec 16) :
    (eventWord kind payload).extractLsb' 16 4 = 0 := by
  rw [eventWord, BitVec.extractLsb'_append_eq_of_le (by omega), BitVec.extractLsb'_append_eq_of_add_le (by omega)]
  rfl

@[simp] theorem eventWord_kind (kind : BitVec 4) (payload : BitVec 16) :
    (eventWord kind payload).extractLsb' 20 4 = kind := by
  rw [eventWord, BitVec.extractLsb'_append_eq_of_le (by omega), BitVec.extractLsb'_append_eq_of_le (by omega),
    BitVec.extractLsb'_eq_self]

theorem Event.word_reservedBits (e : Event) : e.word.extractLsb' 16 4 = 0 := by
  cases e <;> exact eventWord_reservedBits _ _

/-- Settles O5: each event's word is an `eventWord`, whose kind, zero bits and payload are read back. -/
theorem outputEventWordsHaveKindAndPayload : Obligations.OutputEventWordsHaveKindAndPayload :=
  ⟨Event.word_reservedBits,
    fun _ => ⟨eventWord_kind _ _, eventWord_payload _ _⟩,
    fun _ => ⟨eventWord_kind _ _, eventWord_payload _ _⟩,
    fun _ => ⟨eventWord_kind _ _, eventWord_payload _ _⟩,
    fun _ => ⟨eventWord_kind _ _, eventWord_payload _ _⟩,
    fun _ => ⟨eventWord_kind _ _, eventWord_payload _ _⟩⟩

end Sys2Proof.Machine
end

section
/-! The configurator (40_configurator.md rules R60 and R62): its result as one record, and the host command that runs it. -/

namespace Sys2Proof.Machine

/-- A command admitted in IDLE only, offered in IDLE. -/
theorem inIdle_of_idle (run : State → State) {s : State} (h : s.phase = .idle) : inIdle run s = .next (run s) :=
  if_pos h

theorem exec_configure (s : State) : exec .configure s = inIdle State.configure s := rfl

/-- The fields the configurator writes (R60, R62); every other field is kept. -/
theorem State.configure_eq (s : State) : s.configure = { s with
    cfg := some (configImage s.params), cnt := some Config.initCnt, configured := true, role := .idleUnaddressed,
    dxr := s.drawAny8, trace := s.trace ++ [.cfgWrite (configImage s.params), .cntWrite Config.initCnt] } := by
  ext1
  case trace => rw [State.configure_trace, List.append_assoc]; rfl
  all_goals simp

/-- Settles O16: in IDLE the command is the configurator, whose image, `INIT_CNT` and draw are the literals stated. -/
theorem configureWritesTheImageAndPrimesTheCounter : Obligations.ConfigureWritesTheImageAndPrimesTheCounter := by
  refine ⟨by decide, fun s hidle => ?_⟩
  rw [exec_configure, inIdle_of_idle _ hidle, State.configure_eq]
  rfl

end Sys2Proof.Machine
end

section
/-! Dispatch 1 and the acknowledge (41_entry_classifier.md rules R69 to R73): the selectors dispatch 1 forms, when it forms
them, and the step each leads to. -/

namespace Sys2Proof

/-- The class code stands at bit 19 of a `D1_PASS` selector (R70). -/
theorem passSelector_eq_or (k : CauseClass) :
    passSelector k = 0x400000 ||| ((classCode k).zeroExtend 24 <<< 19) := by
  cases k <;> rfl

/-- A receiver selector is its fixed upper byte and its counter (R71). -/
theorem receiverSelector_eq_or (c : Count) : receiverSelector c = 0x780000 ||| c.zeroExtend 24 :=
  BitVec.append_def _ c

/-- A transmitter selector is its fixed upper byte and its counter (R71). -/
theorem transmitterSelector_eq_or (c : Count) : transmitterSelector c = 0x7A0000 ||| c.zeroExtend 24 :=
  BitVec.append_def _ c

end Sys2Proof

namespace Sys2Proof.Machine

/-! ### What dispatch 1 fetches -/

theorem fetchDispatch1_pass {s : State} {k : CauseClass} (hk : s.sampleCause = k) (hne : k ≠ .aas) :
    s.fetchDispatch1 = .selector (passSelector k) := by
  cases k
  case aas => exact absurd rfl hne
  all_goals simp only [State.fetchDispatch1, hk]

theorem fetchDispatch1_receiver {s : State} {c : Count} (hk : s.sampleCause = .aas) (hd : s.sampleDir = .receiver)
    (hc : s.cnt = some c) : s.fetchDispatch1 = .selector (receiverSelector c) := by
  simp only [State.fetchDispatch1, Fetched.withCount, hk, hd, hc]

theorem fetchDispatch1_transmitter {s : State} {c : Count} (hk : s.sampleCause = .aas)
    (hd : s.sampleDir = .transmitter) (hc : s.cnt = some c) :
    s.fetchDispatch1 = .selector (transmitterSelector c) := by
  simp only [State.fetchDispatch1, Fetched.withCount, hk, hd, hc]

theorem fetchDispatch1_unrecognised {s : State} (hk : s.sampleCause = .aas) (hd : s.sampleDir = .unrecognised) :
    s.fetchDispatch1 = .selector dirBadSelector := by
  simp only [State.fetchDispatch1, hk, hd]

/-! ### What the arms do in D1 -/

/-- A dispatch-1 arm that ends in its own step, run in D1. -/
theorem inD1_of_d1 (run : State → State) {s : State} (h : s.phase = .d1) : inD1 run s = .next (run s) := if_pos h

theorem receiverArm_of_d1 {c : Count} (update : State → State) {s : State} (hp : s.phase = .d1)
    (hc : s.cnt = some c) : receiverArm c update s = .next s.enterReceiver := by
  simp only [receiverArm, hp, hc, if_true]

theorem transmitterArm_of_d1 {c : Count} (update : State → State) {s : State} (hp : s.phase = .d1)
    (hc : s.cnt = some c) : transmitterArm c update s = .next s.enterTransmitter := by
  simp only [transmitterArm, hp, hc, if_true]

/-- Dispatch 1 into the receiver, whatever the counter (R71). -/
theorem step_receiver_of_d1 {s : State} {c : Count} (hp : s.phase = .d1) (hc : s.cnt = some c)
    (hf : s.fetch = .selector (receiverSelector c)) : step s = .next s.enterReceiver.consume := by
  obtain ⟨update, hexec⟩ := exec_receiverArm c s
  rw [step_of_selector hf (decode_receiverSelector c), hexec, receiverArm_of_d1 update hp hc, mapNext]

/-- Dispatch 1 into the transmitter, whatever the counter (R71). -/
theorem step_transmitter_of_d1 {s : State} {c : Count} (hp : s.phase = .d1) (hc : s.cnt = some c)
    (hf : s.fetch = .selector (transmitterSelector c)) : step s = .next s.enterTransmitter.consume := by
  obtain ⟨update, hexec⟩ := exec_transmitterArm c s
  rw [step_of_selector hf (decode_transmitterSelector c), hexec, transmitterArm_of_d1 update hp hc, mapNext]

/-- The fields the fatal path writes (R106) for a fault that is acknowledged; every other field is kept. -/
theorem State.raiseFatal_eq {k : FaultKind} (hk : k ≠ .unconfiguredInvocation) (s : State) :
    s.raiseFatal k = { s with
      phase := .halted, d2i := 0, fault := some k,
      trace := s.trace ++ [.halt k, .groupAck s.params.ackGroup] } := by
  ext1
  case trace => rw [State.raiseFatal_trace, if_neg hk]
  all_goals simp

theorem exec_dirBad (s : State) : exec .dirBad s = inD1 (State.raiseFatal .unexpectedDirectionState) s := rfl

/-! ### The arms of `D1_PASS` -/

/-- The arms of `D1_PASS` with their classes (R70). -/
def passArms : List (Instr × CauseClass) :=
  [(.d1PassUndef, .undef), (.d1PassNack, .nack), (.d1PassRrdy, .rrdy), (.d1PassXrdy, .xrdy), (.d1PassScd, .scd)]

/-- Their classes are not addressed-as-slave. -/
theorem passArms_ne_aas : ∀ x ∈ passArms, x.2 ≠ .aas := by decide

theorem encode_passArms : ∀ x ∈ passArms, encode x.1 = passSelector x.2 := by decide

theorem decode_passArms : ∀ x ∈ passArms, decode (passSelector x.2) = .ok x.1 := by decide

/-- They all have one meaning (R70). -/
theorem exec_passArms (s : State) : ∀ x ∈ passArms, exec x.1 s = inD1 (State.goto .d2) s := by
  intro x hx
  fin_cases hx <;> rfl

/-- Settles O20: the five arms of `passArms` share one meaning, and dispatch 1 forms the selector of the sampled class. -/
theorem dispatchOnePassesOtherCauses : Obligations.DispatchOnePassesOtherCauses := by
  refine ⟨passSelector_eq_or, fun s i k (hmem : (i, k) ∈ passArms) => ⟨encode_passArms (i, k) hmem, fun hp => ?_, ?_⟩⟩
  · rw [exec_passArms s (i, k) hmem, inD1_of_d1 _ hp, State.goto]
  · intro hp hr hk
    have hfetch : s.fetch = .selector (passSelector k) :=
      (fetch_d1 hp hr).trans (fetchDispatch1_pass hk (passArms_ne_aas (i, k) hmem))
    exact step_of_selector hfetch (decode_passArms (i, k) hmem)

/-- Settles O22: each direction sample fixes the selector dispatch 1 forms, and with it the arm that runs in D1. -/
theorem addressedDispatchFollowsTheDirection : Obligations.AddressedDispatchFollowsTheDirection := by
  intro s c hp hr hk hc
  refine ⟨fun hd => ?receiver, fun hd => ?transmitter, fun hd => ?unrecognised⟩
  case receiver =>
    have hfetch := (fetch_d1 hp hr).trans (fetchDispatch1_receiver hk hd hc)
    exact ⟨receiverSelector_eq_or c ▸ hfetch, step_receiver_of_d1 hp hc hfetch⟩
  case transmitter =>
    have hfetch := (fetch_d1 hp hr).trans (fetchDispatch1_transmitter hk hd hc)
    exact ⟨transmitterSelector_eq_or c ▸ hfetch, step_transmitter_of_d1 hp hc hfetch⟩
  case unrecognised =>
    have hfetch := (fetch_d1 hp hr).trans (fetchDispatch1_unrecognised hk hd)
    refine ⟨hfetch, ?_⟩
    rw [step_of_selector hfetch decode_dirBadSelector, exec_dirBad, inD1_of_d1 _ hp, mapNext,
      State.raiseFatal_eq (by decide)]

/-! ### The acknowledge -/

theorem State.ownStep_of_ack {s : State} (h : s.phase = .ack) : s.ownStep = s.ackReturn := by
  simp only [State.ownStep, h]

/-- Settles O23: ACK forms no selector, and its own step is the acknowledge with the return to IDLE. -/
theorem acknowledgeReturnsToIdle : Obligations.AcknowledgeReturnsToIdle := by
  intro s hp hr
  rw [step_of_phaseStep (fetch_ack_halted (.inl hp) hr), State.ownStep_of_ack hp]
  rfl

end Sys2Proof.Machine
end

section
/-! The receiver (42_addressed_receive.md rules R77 to R81): the arm that a counter selects, its busy-wait, and its update. -/

namespace Sys2Proof.Machine

/-! ### The arm that a counter selects -/

/-- The well-formed receiver arm of a counter is the arm that its selector decodes to (R51). -/
theorem receiverInstr_eq_of_mem {i : Instr} {c : Count} (hwf : i.wellFormed = true)
    (hmem : (i, c) ∈ [(Instr.rxC2, (2 : Count)), (.rxC1, 1), (.rxCx c, c)]) :
    i = if c = 2 then .rxC2 else if c = 1 then .rxC1 else .rxCx c := by
  simp only [List.mem_cons, Prod.mk.injEq, List.not_mem_nil, or_false, and_true] at hmem
  obtain ⟨rfl, rfl⟩ | ⟨rfl, rfl⟩ | rfl := hmem
  case inl => rfl
  case inr.inl => rfl
  case inr.inr =>
    obtain ⟨h1, h2⟩ : c ≠ 1 ∧ c ≠ 2 := by simpa [Instr.wellFormed] using hwf
    rw [if_neg h2, if_neg h1]

/-- In the receiver's phases the step is the arm of the counter (R49). -/
theorem step_receiver {s : State} {c : Count} (hp : s.phase = .waitRx ∨ s.phase = .rxUpd) (hr : s.NotReset)
    (hc : s.cnt = some c) : step s = mapNext State.consume
      (exec (if c = 2 then .rxC2 else if c = 1 then .rxC1 else .rxCx c) s) :=
  step_of_selector (fetch_receiver hp hc hr) (decode_receiverSelector c)

/-! ### What a receiver arm does in WAIT_RX and in RX_UPD -/

theorem receiverArm_of_waitRx {c : Count} (update : State → State) {s : State} (hp : s.phase = .waitRx)
    (hc : s.cnt = some c) : receiverArm c update s = .next s.pollReceive := by
  simp only [receiverArm, hp, hc, if_true]

theorem receiverArm_of_rxUpd {c : Count} (update : State → State) {s : State} (hp : s.phase = .rxUpd)
    (hc : s.cnt = some c) : receiverArm c update s = .next (update s) := by
  simp only [receiverArm, hp, hc, if_true]

theorem State.pollReceive_of_ready {s : State} (h : s.sampleRrdy = 1) : s.pollReceive = s.goto .rxUpd := if_pos h

theorem State.pollReceive_of_notReady {s : State} (h : s.sampleRrdy = 0) : s.pollReceive = s :=
  if_neg (by rw [h]; decide)

/-- Settles O24: whatever the counter, the arm is a `receiverArm`, whose dispatch and wait do not depend on its update. -/
theorem receiverArmsDispatchAndWait : Obligations.ReceiverArmsDispatchAndWait := by
  intro s i c hwf hmem hc
  obtain ⟨update, hexec⟩ := exec_receiverArm c s
  rw [receiverInstr_eq_of_mem hwf hmem, hexec]
  refine ⟨fun hp => ?dispatch, fun hp hready => ?ready, fun hp hnot => ?hold, fun hp hr => ?step⟩
  case dispatch => rw [receiverArm_of_d1 update hp hc]; rfl
  case ready => rw [receiverArm_of_waitRx update hp hc, State.pollReceive_of_ready hready, State.goto]
  case hold => rw [receiverArm_of_waitRx update hp hc, State.pollReceive_of_notReady hnot]
  case step => rw [step_receiver (.inl hp) hr hc, hexec]

/-! ### The updates -/

theorem exec_rxC2 (s : State) : exec .rxC2 s =
    receiverArm 2 (fun s => (((s.writeDxr s.sampleDrr).writeCnt 1).writeCnt 0).goto .d2) s := rfl

theorem exec_rxC1 (s : State) : exec .rxC1 s = receiverArm 1 (fun s => (s.writeCnt 0).goto .d2) s := rfl

theorem exec_rxCx {c : Count} (h1 : c ≠ 1) (h2 : c ≠ 2) (s : State) :
    exec (.rxCx c) s = receiverArm c (State.goto .d2) s := if_neg (not_or.mpr ⟨h1, h2⟩)

/-- The echo and the two counter writes as one record (R79): the last counter is kept, the trace holds all three writes. -/
theorem State.echo_countThroughOne_eq (v : Byte) (s : State) :
    (((s.writeDxr v).writeCnt 1).writeCnt 0).goto .d2 = { s with
      dxr := v, cnt := some 0, phase := .d2, trace := s.trace ++ [.dxrWrite v, .cntWrite 1, .cntWrite 0] } := by
  ext1
  case trace => simp
  all_goals rfl

/-- Settles O25: in RX_UPD the arm is its update, the echo and then the counter through 1 to 0. -/
theorem rxC2EchoesAndCountsToZero : Obligations.RxC2EchoesAndCountsToZero := by
  refine ⟨rfl, fun s hp hc => ?_⟩
  rw [exec_rxC2, receiverArm_of_rxUpd _ hp hc, State.echo_countThroughOne_eq, State.sampleDrr]

/-- Settles O26: in RX_UPD the arm is its update, the counter write alone. -/
theorem rxC1CountsToZero : Obligations.RxC1CountsToZero := by
  refine ⟨rfl, fun s hp hc => ?_⟩
  rw [exec_rxC1, receiverArm_of_rxUpd _ hp hc]
  rfl

/-- Settles O27: the receiver selector of any other counter decodes to the catch-all arm, whose update only moves on. -/
theorem rxCxWritesNothing : Obligations.RxCxWritesNothing := by
  intro c h1 h2
  refine ⟨receiverSelector_eq_or c, ?decodes, fun s hp hc => ?runs⟩
  case decodes => rw [← receiverSelector_eq_or, decode_receiverSelector, if_neg h2, if_neg h1]
  case runs => rw [exec_rxCx h1 h2, receiverArm_of_rxUpd _ hp hc, State.goto]

/-- Settles O28: the two tests and the arm of the counter agree, counter by counter: at 2 both tests hold, since the first
leaves 1; at 1 the second alone; at any other counter neither. -/
theorem receiverUpdateTestsTheCounterTwice : Obligations.ReceiverUpdateTestsTheCounterTwice := by
  intro s c hp hr hc
  rw [step_receiver (.inr hp) hr hc]
  by_cases h2 : c = 2
  · subst h2
    rw [if_pos rfl, rxC2EchoesAndCountsToZero.2 s hp hc, mapNext]
    simp only [if_pos hc, if_true, List.append_assoc, List.cons_append, List.nil_append]
  have hne2 : s.cnt ≠ some 2 := fun h => h2 (Option.some.inj (hc.symm.trans h))
  by_cases h1 : c = 1
  · subst h1
    rw [if_neg h2, if_pos rfl, rxC1CountsToZero.2 s hp hc, mapNext]
    simp only [if_neg hne2, if_pos hc]
  · have hne1 : s.cnt ≠ some 1 := fun h => h1 (Option.some.inj (hc.symm.trans h))
    obtain ⟨-, -, hexec⟩ := rxCxWritesNothing c h1 h2
    rw [if_neg h2, if_neg h1, hexec s hp hc, mapNext]
    simp only [if_neg hne2, if_neg hne1]

end Sys2Proof.Machine
end

section
/-! The transmitter (43_addressed_transmit.md rules R83 to R88): the arm that a counter selects, its busy-wait, and its
update. -/

namespace Sys2Proof.Machine

/-! ### The arm that a counter selects -/

/-- The well-formed transmitter arm of a counter is the arm that its selector decodes to (R51). -/
theorem transmitterInstr_eq_of_mem {i : Instr} {c : Count} (hwf : i.wellFormed = true)
    (hmem : (i, c) ∈ [(Instr.txC0, (0 : Count)), (.txC1, 1), (.txC2, 2), (.txCx c, c)]) :
    i = if c = 0 then .txC0 else if c = 1 then .txC1 else if c = 2 then .txC2 else .txCx c := by
  simp only [List.mem_cons, Prod.mk.injEq, List.not_mem_nil, or_false, and_true] at hmem
  obtain ⟨rfl, rfl⟩ | ⟨rfl, rfl⟩ | ⟨rfl, rfl⟩ | rfl := hmem
  case inl => rfl
  case inr.inl => rfl
  case inr.inr.inl => rfl
  case inr.inr.inr =>
    obtain ⟨⟨h0, h1⟩, h2⟩ : (c ≠ 0 ∧ c ≠ 1) ∧ c ≠ 2 := by simpa [Instr.wellFormed] using hwf
    rw [if_neg h0, if_neg h1, if_neg h2]

/-- In the transmitter's phases the step is the arm of the counter (R49). -/
theorem step_transmitter {s : State} {c : Count} (hp : s.phase = .waitTx ∨ s.phase = .txUpd) (hr : s.NotReset)
    (hc : s.cnt = some c) : step s = mapNext State.consume
      (exec (if c = 0 then .txC0 else if c = 1 then .txC1 else if c = 2 then .txC2 else .txCx c) s) :=
  step_of_selector (fetch_transmitter hp hc hr) (decode_transmitterSelector c)

/-! ### What a transmitter arm does in WAIT_TX and in TX_UPD -/

theorem transmitterArm_of_waitTx {c : Count} (update : State → State) {s : State} (hp : s.phase = .waitTx)
    (hc : s.cnt = some c) : transmitterArm c update s = .next s.pollTransmit := by
  simp only [transmitterArm, hp, hc, if_true]

theorem transmitterArm_of_txUpd {c : Count} (update : State → State) {s : State} (hp : s.phase = .txUpd)
    (hc : s.cnt = some c) : transmitterArm c update s = .next (update s) := by
  simp only [transmitterArm, hp, hc, if_true]

theorem State.pollTransmit_of_ready {s : State} (h : s.sampleXrdy = 1) : s.pollTransmit = s.goto .txUpd := if_pos h

theorem State.pollTransmit_of_notReady {s : State} (h : s.sampleXrdy = 0) : s.pollTransmit = s :=
  if_neg (by rw [h]; decide)

/-- Settles O29: whatever the counter, the arm is a `transmitterArm`, whose dispatch and wait do not depend on its update. -/
theorem transmitterArmsDispatchAndWait : Obligations.TransmitterArmsDispatchAndWait := by
  intro s i c hwf hmem hc
  obtain ⟨update, hexec⟩ := exec_transmitterArm c s
  rw [transmitterInstr_eq_of_mem hwf hmem, hexec]
  refine ⟨fun hp => ?dispatch, fun hp hready => ?ready, fun hp hnot => ?hold, fun hp hr => ?step⟩
  case dispatch => rw [transmitterArm_of_d1 update hp hc]; rfl
  case ready => rw [transmitterArm_of_waitTx update hp hc, State.pollTransmit_of_ready hready, State.goto]
  case hold => rw [transmitterArm_of_waitTx update hp hc, State.pollTransmit_of_notReady hnot]
  case step => rw [step_transmitter (.inl hp) hr hc, hexec]

/-! ### The updates -/

theorem exec_txC0 (s : State) : exec .txC0 s = transmitterArm 0 (fun s => (s.writeCnt 1).goto .d2) s := rfl

theorem exec_txC1 (s : State) : exec .txC1 s =
    transmitterArm 1 (fun s => ((s.writeDxr s.sampleDrr).writeCnt 2).goto .d2) s := rfl

theorem exec_txC2 (s : State) : exec .txC2 s =
    transmitterArm 2 (fun s => ((s.writeDxr Config.constA).writeCnt 3).goto .d2) s := rfl

theorem exec_txCx {c : Count} (h0 : c ≠ 0) (h1 : c ≠ 1) (h2 : c ≠ 2) (s : State) : exec (.txCx c) s =
    transmitterArm c (fun s => ((s.writeDxr Config.constB).writeCnt 2).goto .d2) s :=
  if_neg (not_or.mpr ⟨h0, not_or.mpr ⟨h1, h2⟩⟩)

/-- A data write and a counter write as one record (R86 to R88): the trace holds both, the data write first. -/
theorem State.writeDxr_writeCnt_goto_eq (v : Byte) (n : Count) (p : Phase) (s : State) :
    ((s.writeDxr v).writeCnt n).goto p = { s with
      dxr := v, cnt := some n, phase := p, trace := s.trace ++ [.dxrWrite v, .cntWrite n] } := by
  ext1
  case trace => simp
  all_goals rfl

/-- Settles O30: in TX_UPD the arm is its update, the counter write alone. -/
theorem txC0AlignsTheCounter : Obligations.TxC0AlignsTheCounter := by
  refine ⟨rfl, fun s hp hc => ?_⟩
  rw [exec_txC0, transmitterArm_of_txUpd _ hp hc]
  rfl

/-- Settles O31: in TX_UPD the arm is its update, whose data write is the sample of the receive register. -/
theorem txC1EchoesTheReceiveRegister : Obligations.TxC1EchoesTheReceiveRegister := by
  refine ⟨rfl, fun s hp hc => ?_⟩
  rw [exec_txC1, transmitterArm_of_txUpd _ hp hc, State.writeDxr_writeCnt_goto_eq, State.sampleDrr]

/-- Settles O32: in TX_UPD the arm is its update, whose data write is constant A. -/
theorem txC2WritesConstantA : Obligations.TxC2WritesConstantA := by
  refine ⟨rfl, fun s hp hc => ?_⟩
  rw [exec_txC2, transmitterArm_of_txUpd _ hp hc, State.writeDxr_writeCnt_goto_eq, Config.constA]

/-- Settles O33: the transmitter selector of any other counter decodes to the catch-all arm, whose update writes constant B
and counter 2. -/
theorem txCxWritesConstantBAndWraps : Obligations.TxCxWritesConstantBAndWraps := by
  intro c h0 h1 h2
  refine ⟨transmitterSelector_eq_or c, ?decodes, fun s hp hc => ?runs⟩
  case decodes => rw [← transmitterSelector_eq_or, decode_transmitterSelector, if_neg h0, if_neg h1, if_neg h2]
  case runs =>
    rw [exec_txCx h0 h1 h2, transmitterArm_of_txUpd _ hp hc, State.writeDxr_writeCnt_goto_eq, Config.constB]

/-- Settles O34: the step is the arm of the counter, and each counter's arm is its update. -/
theorem transmitterUpdateRunsOneArm : Obligations.TransmitterUpdateRunsOneArm := by
  intro s c hp hr hc
  rw [step_transmitter (.inr hp) hr hc]
  split_ifs with h0 h1 h2
  case pos => rw [txC0AlignsTheCounter.2 s hp (h0 ▸ hc), mapNext]
  case pos => rw [txC1EchoesTheReceiveRegister.2 s hp (h1 ▸ hc), mapNext]
  case pos => rw [txC2WritesConstantA.2 s hp (h2 ▸ hc), mapNext]
  case neg =>
    obtain ⟨-, -, hexec⟩ := txCxWritesConstantBAndWraps c h0 h1 h2
    rw [hexec s hp hc, mapNext]

end Sys2Proof.Machine
end

section
/-! Dispatch 2 (44_secondary_dispatch.md rules R90 to R97): when a sample fires an arm, the selector it then forms, and
what the arms and the comparisons that do not match do. -/

namespace Sys2Proof

/-- The class code stands at bit 19 of a dispatch-2 selector (R50). -/
theorem dispatch2Selector_eq_or (k : CauseClass) :
    dispatch2Selector k = 0x800000 ||| ((classCode k).zeroExtend 24 <<< 19) := by
  cases k <;> rfl

/-- The dispatch-2 arm of a class (R92 to R97). -/
def dispatch2Instr : CauseClass → Instr
  | .undef => .d2Undef
  | .nack  => .d2Nack
  | .rrdy  => .d2Rrdy
  | .xrdy  => .d2Xrdy
  | .scd   => .d2Scd
  | .aas   => .d2None

theorem decode_dispatch2Selector_eq_instr (k : CauseClass) : decode (dispatch2Selector k) = .ok (dispatch2Instr k) := by
  cases k <;> rfl

end Sys2Proof

namespace Sys2Proof.Machine

/-! ### When a sample fires an arm, and the step it then takes -/

theorem State.dispatch2Fires_of_single {s : State} (h : s.params.d2Sampling = .single) (k : CauseClass) :
    s.dispatch2Fires k = true := by
  simp only [State.dispatch2Fires, h]

theorem State.dispatch2Fires_of_perArm {s : State} (h : s.params.d2Sampling = .perArm) (k : CauseClass) :
    s.dispatch2Fires k = true ↔ comparedClass s.d2i = k := by
  simp only [State.dispatch2Fires, h, beq_iff_eq]

/-- Stop-condition is compared second (R91). -/
theorem eq_one_of_comparedClass_eq_scd {i : Fin 5} (h : comparedClass i = .scd) : i = 1 := by
  revert i; decide

theorem fetch_d2_of_fires {s : State} (hp : s.phase = .d2) (hr : s.NotReset)
    (hf : s.dispatch2Fires s.sampleCause = true) : s.fetch = .selector (dispatch2Selector s.sampleCause) :=
  (fetch_d2 hp hr).trans (if_pos hf)

theorem fetch_d2_of_not_fires {s : State} (hp : s.phase = .d2) (hr : s.NotReset)
    (hf : ¬s.dispatch2Fires s.sampleCause = true) : s.fetch = .phaseStep :=
  (fetch_d2 hp hr).trans (if_neg hf)

/-- A sample that fires runs the arm of its class (R90, R91). -/
theorem step_d2_of_fires {s : State} (hp : s.phase = .d2) (hr : s.NotReset)
    (hf : s.dispatch2Fires s.sampleCause = true) :
    step s = mapNext State.consume (exec (dispatch2Instr s.sampleCause) s) :=
  step_of_selector (fetch_d2_of_fires hp hr hf) (decode_dispatch2Selector_eq_instr _)

/-! ### What follows a comparison that does not halt -/

theorem State.ownStep_of_d2 {s : State} (h : s.phase = .d2) : s.ownStep = s.continueDispatch2 := by
  simp only [State.ownStep, h]

theorem State.continueDispatch2_of_single {s : State} (h : s.params.d2Sampling = .single) :
    s.continueDispatch2 = { s with phase := .ack } := by
  simp only [State.continueDispatch2, h, State.goto]

theorem State.continueDispatch2_of_perArm {s : State} (h : s.params.d2Sampling = .perArm) : s.continueDispatch2 =
    if s.d2i = 4 then { s with d2i := 0, phase := .ack } else { s with d2i := s.d2i + 1 } := by
  simp only [State.continueDispatch2, h, State.goto]

/-- Under `PerArm` a sample whose class is not the compared one forms no selector, and dispatch 2 goes on (R91, R97). -/
theorem step_perArm_of_ne {s : State} (hp : s.phase = .d2) (hr : s.NotReset) (hsamp : s.params.d2Sampling = .perArm)
    (hne : s.sampleCause ≠ comparedClass s.d2i) :
    s.fetch = .phaseStep ∧ step s = .next (State.consume
      (if s.d2i = 4 then { s with d2i := 0, phase := .ack } else { s with d2i := s.d2i + 1 })) := by
  have hmiss : ¬s.dispatch2Fires s.sampleCause = true :=
    fun hf => hne ((State.dispatch2Fires_of_perArm hsamp _).mp hf).symm
  have hfetch := fetch_d2_of_not_fires hp hr hmiss
  refine ⟨hfetch, ?_⟩
  rw [step_of_phaseStep hfetch, State.ownStep_of_d2 hp, State.continueDispatch2_of_perArm hsamp]

/-! ### What the arms do in D2 -/

theorem dispatch2Arm_of_fires {k : CauseClass} (run : State → State) {s : State} (hp : s.phase = .d2)
    (hf : s.dispatch2Fires k = true) : dispatch2Arm k run s = .next (run s) := if_pos ⟨hp, hf⟩

theorem exec_d2Scd (s : State) : exec .d2Scd s = dispatch2Arm .scd (fun s => s.configure.continueDispatch2) s := rfl

theorem exec_d2None (s : State) : exec .d2None s = dispatch2Arm .aas (State.goto .ack) s := rfl

/-- A fatal dispatch-2 arm, where its sample fires it (R106). -/
theorem dispatch2Arm_raiseFatal_of_fires {c : CauseClass} {k : FaultKind} {s : State} (hk : k ≠ .unconfiguredInvocation)
    (hp : s.phase = .d2) (hf : s.dispatch2Fires c = true) : dispatch2Arm c (State.raiseFatal k) s = .next { s with
      phase := .halted, d2i := 0, fault := some k, trace := s.trace ++ [.halt k, .groupAck s.params.ackGroup] } := by
  rw [dispatch2Arm_of_fires _ hp hf, State.raiseFatal_eq hk]

/-! ### The statements -/

/-- Settles O39: a sample of the compared class runs that comparison's arm; with any other, none of the five guards of
the stated chain holds and dispatch 2 goes on. -/
theorem perArmSamplingComparesInOrder : Obligations.PerArmSamplingComparesInOrder := by
  intro s hp hr hsamp
  by_cases hk : s.sampleCause = comparedClass s.d2i
  case pos =>
    rw [step_d2_of_fires hp hr ((State.dispatch2Fires_of_perArm hsamp _).mpr hk.symm), hk]
    generalize s.d2i = i
    fin_cases i <;> rfl
  case neg =>
    have hno (n : Fin 5) (k : CauseClass) (h : comparedClass n = k) : ¬(s.d2i = n ∧ s.sampleCause = k) := by
      rintro ⟨rfl, rfl⟩
      exact hk h.symm
    obtain ⟨-, hstep⟩ := step_perArm_of_ne hp hr hsamp hk
    rw [hstep, if_neg (hno 0 .undef rfl), if_neg (hno 1 .scd rfl), if_neg (hno 2 .xrdy rfl), if_neg (hno 3 .rrdy rfl),
      if_neg (hno 4 .nack rfl)]
    split_ifs <;> rfl

/-- Settles O35: each of the four arms is the fatal path with its kind, and each kind is acknowledged. -/
theorem fatalCausesHaltDispatchTwo : Obligations.FatalCausesHaltDispatchTwo := by
  intro s i w c k code hmem
  simp only [List.mem_cons, Prod.mk.injEq, List.not_mem_nil, or_false] at hmem
  obtain ⟨rfl, rfl, rfl, rfl, rfl⟩ | ⟨rfl, rfl, rfl, rfl, rfl⟩ | ⟨rfl, rfl, rfl, rfl, rfl⟩ |
    ⟨rfl, rfl, rfl, rfl, rfl⟩ := hmem
  all_goals exact ⟨rfl, rfl, dispatch2Arm_raiseFatal_of_fires (by decide)⟩

/-- Settles O36: the arm is the configurator, then `continueDispatch2`; under `PerArm` it fires at comparison 1 only. -/
theorem stopConditionReconfigures : Obligations.StopConditionReconfigures := by
  refine ⟨rfl, fun s hp hf => ?_⟩
  have hexec : exec .d2Scd s = .next s.configure.continueDispatch2 := by rw [exec_d2Scd, dispatch2Arm_of_fires _ hp hf]
  refine ⟨fun hsamp => ?single, fun hsamp => ?perArm⟩
  case single =>
    rw [hexec, State.continueDispatch2_of_single (s := s.configure) hsamp, State.configure_eq]
    rfl
  case perArm =>
    have hi : s.d2i = 1 := eq_one_of_comparedClass_eq_scd ((State.dispatch2Fires_of_perArm hsamp _).mp hf)
    rw [hexec, State.continueDispatch2_of_perArm (s := s.configure) hsamp, State.configure_d2i, hi, if_neg (by decide),
      State.configure_eq]
    rfl

/-- Settles O37: under `Single` every sample fires, addressed-as-slave the arm that only moves on; under `PerArm` a
comparison that does not match moves on by itself. -/
theorem nothingFiresOnAddressedAsSlave : Obligations.NothingFiresOnAddressedAsSlave := by
  refine ⟨rfl, fun s hp hr => ⟨fun hsamp => ?arm, fun hsamp hk => ?single, fun hsamp hne => ?perArm⟩⟩
  case arm => rw [exec_d2None, dispatch2Arm_of_fires _ hp (State.dispatch2Fires_of_single hsamp _), State.goto]
  case single =>
    have hf := State.dispatch2Fires_of_single hsamp s.sampleCause
    have hfetch := fetch_d2_of_fires hp hr hf
    have hstep := step_d2_of_fires hp hr hf
    rw [hk] at hfetch hstep
    exact ⟨hfetch, hstep⟩
  case perArm => exact step_perArm_of_ne hp hr hsamp hne

/-- Settles O38: under `Single` every sample fires, so the step is the arm of its class. -/
theorem singleSamplingFiresTheArmOfItsClass : Obligations.SingleSamplingFiresTheArmOfItsClass := by
  intro s hp hr hsamp
  have hf := State.dispatch2Fires_of_single hsamp s.sampleCause
  refine ⟨dispatch2Selector_eq_or _ ▸ fetch_d2_of_fires hp hr hf, ?_⟩
  rw [step_d2_of_fires hp hr hf]
  cases s.sampleCause <;> rfl

end Sys2Proof.Machine
end

section
/-! The fatal path seen from the whole machine (60_exceptions.md rule R106): `raiseFatal` is the one operation that enters
HALTED. -/

namespace Sys2Proof.Machine

/-- The fields the fatal path writes (R106), whether or not the fault is acknowledged; every other field is kept. -/
theorem State.raiseFatal_eq_record (k : FaultKind) (s : State) : s.raiseFatal k = { s with
    phase := .halted, d2i := 0, fault := some k,
    trace := s.trace ++ .halt k ::
      (if k = .unconfiguredInvocation then [] else [.groupAck s.params.ackGroup]) } := by
  ext1
  case trace => exact State.raiseFatal_trace k s
  all_goals simp

/-! ### The operations that do not halt -/

/-- Going on with dispatch 2 stays in its phase or goes to the acknowledge (R90, R91). -/
theorem State.continueDispatch2_phase (s : State) :
    s.continueDispatch2.phase = s.phase ∨ s.continueDispatch2.phase = .ack := by
  obtain ⟨-, e⟩ | ⟨-, -, e⟩ | ⟨-, -, e⟩ := s.continueDispatch2_cases
  · exact .inr (by rw [e, State.goto_phase])
  · exact .inr (by rw [e, State.goto_phase])
  · exact .inl (by rw [e])

theorem State.continueDispatch2_phase_ne_halted {s : State} (hp : s.phase ≠ .halted) :
    s.continueDispatch2.phase ≠ .halted := by
  obtain e | e := s.continueDispatch2_phase
  · rwa [e]
  · rw [e]; decide

/-- A step that forms no selector never enters HALTED (R73, R91, R125). -/
theorem State.ownStep_phase_ne_halted {s : State} (hp : s.phase ≠ .halted) : s.ownStep.phase ≠ .halted := by
  obtain ⟨-, e⟩ | ⟨-, e⟩ | ⟨-, -, e⟩ := s.ownStep_cases
  · rw [e, State.ackReturn_phase]; decide
  · rw [e]; exact State.continueDispatch2_phase_ne_halted hp
  · rwa [e]

/-! ### The arms that halt -/

/-- The kinds of the fatal dispatch-2 arms are not INVOKE's (R92, R94 to R96). -/
theorem d2Fatal_kind_ne_unconfigured {i : Instr} {k : FaultKind}
    (hmem : (i, k) ∈ [(Instr.d2Undef, FaultKind.unreachableInterruptCause), (.d2Xrdy, .protocolViolationTxReady),
      (.d2Rrdy, .protocolViolationRxReady), (.d2Nack, .notAcknowledged)]) : k ≠ .unconfiguredInvocation := by
  rintro rfl
  simp at hmem

/-- An arm that enters HALTED is the fatal path: INVOKE from IDLE, DIR_BAD from D1 or a fatal arm from D2, and only
INVOKE's kind is `UnconfiguredInvocation` (R68, R71, R106). -/
theorem Effect.eq_raiseFatal_of_halted {i : Instr} {s u : State} (h : Effect i s u) (hp : s.phase ≠ .halted)
    (hu : u.phase = .halted) :
    ∃ k : FaultKind, (k = .unconfiguredInvocation ↔ s.phase = .idle) ∧ u = s.raiseFatal k := by
  cases h
  case invokeUnconfigured hidle _ => exact ⟨_, iff_of_true rfl hidle, rfl⟩
  case dirBad hd1 => exact ⟨_, iff_of_false (by decide) (by rw [hd1]; decide), rfl⟩
  case d2Fatal k hmem hd2 =>
    exact ⟨k, iff_of_false (d2Fatal_kind_ne_unconfigured hmem) (by rw [hd2]; decide), rfl⟩
  case noStep => exact absurd hu hp
  case configure => exact absurd hu hp
  case d2Scd => exact absurd hu (State.continueDispatch2_phase_ne_halted (s := s.configure) hp)
  -- Every other effect ends in a phase written out, which is not HALTED.
  all_goals cases hu

/-- Settles O42: only an arm's effect can enter HALTED, and there it is the fatal path, whose acknowledge is left out for
the kind that comes from IDLE alone. -/
theorem fatalPathWritesNothingElse : Obligations.FatalPathWritesNothingElse := by
  intro s t hp hstep ht
  obtain ⟨_, _, u, -, -, -, heffect, rfl⟩ | ⟨-, rfl⟩ := step_cases hstep
  case inl =>
    obtain ⟨k, hk, rfl⟩ := heffect.eq_raiseFatal_of_halted hp ht
    refine ⟨k, hk, ?_⟩
    simp only [State.raiseFatal_eq_record, hk]
  case inr => exact absurd ht (State.ownStep_phase_ne_halted hp)

end Sys2Proof.Machine
end

section
/-! The unbounded busy-waits (70_reset_and_hazards.md rules R118 and R122): a run in which every step holds, and the two
waits while their ready condition is not sampled 1. -/

namespace Sys2Proof.Machine

/-! ### Runs that hold -/

/-- The state after `n` steps that hold (R9): their inputs are consumed and they are counted; the block is as it was. -/
def State.elapse (n : Nat) (s : State) : State := { s with script := s.script.drop n, tick := s.tick + n }

/-- One more step that holds consumes one more record of inputs. -/
theorem State.elapse_succ (n : Nat) (s : State) : s.elapse (n + 1) = (s.elapse n).consume := by
  ext1
  case script => exact List.tail_drop.symm
  all_goals rfl

/-- After `n` steps that hold, the next inputs are those that were `n` steps ahead. -/
theorem State.elapse_inputs (n : Nat) (s : State) : (s.elapse n).inputs = s.inputsAt n := rfl

/-- When none of the next `n` steps is offered RESET, neither is the step after fewer that hold. -/
theorem State.NoResetFor.elapse {n k : Nat} {s : State} (h : s.NoResetFor n) (hk : k < n) : (s.elapse k).NotReset := by
  rw [State.NotReset, State.event, State.elapse_inputs]
  exact h k hk

/-- When each of the next `n` steps holds, so does their run. -/
theorem run_of_holds {n : Nat} {s : State} (h : ∀ k < n, step (s.elapse k) = .next (s.elapse k).consume) :
    core.run n s = .next (s.elapse n) := by
  induction n with
  | zero => rfl
  | succ n ih =>
    have hn : core.run n s = .next (s.elapse n) := ih fun k hk => h k (Nat.lt_succ_of_lt hk)
    calc core.run (n + 1) s
      _ = core.run 1 (s.elapse n) := run_add n 1 hn
      _ = .next (s.elapse n).consume := run_succ 0 (h n n.lt_succ_self)
      _ = .next (s.elapse (n + 1)) := by rw [State.elapse_succ]

/-! ### The two waits -/

/-- The receive busy-wait holds while its ready condition samples 0, whatever else is offered but RESET (R77, R118). -/
theorem step_waitRx_of_notReady {s : State} {c : Count} (hp : s.phase = .waitRx) (hr : s.NotReset)
    (hc : s.cnt = some c) (hnot : s.sampleRrdy = 0) : step s = .next s.consume := by
  obtain ⟨update, hexec⟩ := exec_receiverArm c s
  rw [step_receiver (.inl hp) hr hc, hexec, receiverArm_of_waitRx update hp hc, State.pollReceive_of_notReady hnot,
    mapNext]

/-- The transmit busy-wait, likewise (R83, R118). -/
theorem step_waitTx_of_notReady {s : State} {c : Count} (hp : s.phase = .waitTx) (hr : s.NotReset)
    (hc : s.cnt = some c) (hnot : s.sampleXrdy = 0) : step s = .next s.consume := by
  obtain ⟨update, hexec⟩ := exec_transmitterArm c s
  rw [step_transmitter (.inl hp) hr hc, hexec, transmitterArm_of_waitTx update hp hc,
    State.pollTransmit_of_notReady hnot, mapNext]

/-- Settles O44: steps that hold leave the phase and the counter, so each of the `n` steps is the same wait again, with its
own inputs. -/
theorem waitsHoldWithoutTheReadyCondition : Obligations.WaitsHoldWithoutTheReadyCondition := by
  intro n s hcnt hreset hwait
  obtain ⟨c, hc⟩ := Option.ne_none_iff_exists'.mp hcnt
  refine run_of_holds fun k hk => ?_
  obtain ⟨hp, hnot⟩ | ⟨hp, hnot⟩ := hwait
  case inl => exact step_waitRx_of_notReady hp (hreset.elapse hk) hc (hnot k hk)
  case inr => exact step_waitTx_of_notReady hp (hreset.elapse hk) hc (hnot k hk)

end Sys2Proof.Machine
end

section
/-! The decoder and the encoder (30_encoding.md rules R48 to R52): they are inverse to each other on the well-formed arms,
the selectors left over are the reserved ones, and the fetch forms none of those. -/

namespace Sys2Proof

/-- Settles O1: an arm's selector, cut at the counter field, is the arm's row; at the catch-all arms the counters that
earlier rows take are the ill-formed ones. -/
theorem armSelectorsDecodeToTheArm : Obligations.ArmSelectorsDecodeToTheArm := by
  intro i hwf
  cases i
  case rxCx c =>
    obtain ⟨h1, h2⟩ : c ≠ 1 ∧ c ≠ 2 := by simpa [Instr.wellFormed] using hwf
    rw [encode, decode_receiverSelector, if_neg h2, if_neg h1]
  case txCx c =>
    obtain ⟨⟨h0, h1⟩, h2⟩ : (c ≠ 0 ∧ c ≠ 1) ∧ c ≠ 2 := by simpa [Instr.wellFormed] using hwf
    rw [encode, decode_transmitterSelector, if_neg h0, if_neg h1, if_neg h2]
  all_goals rfl

/-! ### From a selector to its arm and back -/

/-- The arms without a counter are well formed, and their selector has the upper byte they are found by. -/
theorem fixedArm_encode {h : BitVec 8} {i : Instr} (hi : fixedArm h = some i) :
    i.wellFormed = true ∧ encode i = (h ++ 0#16 : BitVec (8 + 16)) := by
  have hall : ∀ h : BitVec 8, (fixedArm h).all
      (fun i => i.wellFormed && encode i == (h ++ 0#16 : BitVec (8 + 16))) = true := by decide
  simpa [hi] using hall h

/-- The receiver arm of a counter is well formed and has its selector. -/
theorem receiverInstr_encode (c : Count) :
    (if c = 2 then Instr.rxC2 else if c = 1 then .rxC1 else .rxCx c).wellFormed = true ∧
    encode (if c = 2 then .rxC2 else if c = 1 then .rxC1 else .rxCx c) = receiverSelector c := by
  split_ifs with h2 h1
  · exact ⟨rfl, h2 ▸ rfl⟩
  · exact ⟨rfl, h1 ▸ rfl⟩
  · exact ⟨by simpa [Instr.wellFormed] using ⟨h1, h2⟩, rfl⟩

/-- The transmitter arm of a counter is well formed and has its selector. -/
theorem transmitterInstr_encode (c : Count) :
    (if c = 0 then Instr.txC0 else if c = 1 then .txC1 else if c = 2 then .txC2 else .txCx c).wellFormed = true ∧
    encode (if c = 0 then .txC0 else if c = 1 then .txC1 else if c = 2 then .txC2 else .txCx c) =
      transmitterSelector c := by
  split_ifs with h0 h1 h2
  · exact ⟨rfl, h0 ▸ rfl⟩
  · exact ⟨rfl, h1 ▸ rfl⟩
  · exact ⟨rfl, h2 ▸ rfl⟩
  · exact ⟨by simpa [Instr.wellFormed] using ⟨⟨h0, h1⟩, h2⟩, rfl⟩

/-- The arm of a cut selector is well formed and has that selector. -/
theorem armOf_encode {h : BitVec 8} {c : Count} {i : Instr} (hi : armOf h c = some i) :
    i.wellFormed = true ∧ encode i = (h ++ c : BitVec (8 + 16)) := by
  unfold armOf at hi
  by_cases hr : h = 0x78
  · subst hr
    exact Option.some.inj hi ▸ receiverInstr_encode c
  by_cases ht : h = 0x7A
  · subst ht
    exact Option.some.inj hi ▸ transmitterInstr_encode c
  · rw [if_neg hr, if_neg ht] at hi
    split_ifs at hi with hc
    exact hc ▸ fixedArm_encode hi

/-- Settles O2: cut at the counter field, an accepted selector is the one of the arm `armOf` names. -/
theorem acceptedSelectorsEncodeBack : Obligations.AcceptedSelectorsEncodeBack := by
  intro w i hw
  rw [selector_split w] at hw ⊢
  exact armOf_encode ((decode_cut_ok _ _ _).mp hw)

/-! ### The reserved selectors -/

/-- R52's list on a cut selector: of the counter only whether it is 0 matters. -/
theorem reservedSelector_cut (h : BitVec 8) (c : Count) : ReservedSelector (h ++ c : BitVec (8 + 16)) ↔
    h.extractLsb' 6 2 = 0b11#2 ∨ h.extractLsb' 0 1 = 1#1 ∨ h.extractLsb' 1 2 = 0b11#2 ∨
    (h.extractLsb' 1 2 ≠ 0#2 ∧ ¬(h.extractLsb' 6 2 = 0b01#2 ∧ h.extractLsb' 3 3 = 0b111#3)) ∨
    (c ≠ 0 ∧ ¬((h.extractLsb' 6 2 = 0b01#2 ∧ h.extractLsb' 3 3 = 0b111#3) ∧
      (h.extractLsb' 1 2 = 0b00#2 ∨ h.extractLsb' 1 2 = 0b01#2))) ∨
    ((h.extractLsb' 6 2 = 0b01#2 ∨ h.extractLsb' 6 2 = 0b10#2) ∧
      (h.extractLsb' 3 3 = 0b001#3 ∨ h.extractLsb' 3 3 = 0b011#3)) ∨
    (h.extractLsb' 6 2 = 0b00#2 ∧ 0b011#3 ≤ h.extractLsb' 3 3) := by
  obtain ⟨hr, hs, hd, hk⟩ := Laws.SelectorFields.upper_fields h c
  simp only [ReservedSelector, hasDirection, hr, hs, hd, hk, cntField_append]
  rfl

/-- With a nonzero counter only the catch-all rows and those they follow are left (R51). -/
theorem armOf_eq_none_of_ne_zero (h : BitVec 8) {c : Count} (hc : c ≠ 0) :
    armOf h c = none ↔ h ≠ 0x78 ∧ h ≠ 0x7A := by
  by_cases hr : h = 0x78
  · rw [armOf, if_pos hr]
    exact iff_of_false nofun fun hne => hne.1 hr
  by_cases ht : h = 0x7A
  · rw [armOf, if_neg hr, if_pos ht]
    exact iff_of_false nofun fun hne => hne.2 ht
  · rw [armOf, if_neg hr, if_neg ht, if_neg hc]
    exact iff_of_true rfl ⟨hr, ht⟩

/-- A cut selector has no arm exactly when it is reserved: at counter 0 and at any other one, a check of the upper byte. -/
theorem armOf_eq_none_iff (h : BitVec 8) (c : Count) :
    armOf h c = none ↔ ReservedSelector (h ++ c : BitVec (8 + 16)) := by
  rw [reservedSelector_cut]
  by_cases hc : c = 0
  · subst hc
    revert h; decide
  · rw [armOf_eq_none_of_ne_zero h hc]
    simp only [ne_eq, hc, not_false_eq_true, true_and]
    revert h; decide

/-- The decoder refuses exactly the reserved selectors (R52). -/
theorem decode_error_iff (w : Selector) : (∃ r, decode w = .error r) ↔ ReservedSelector w := by
  rw [selector_split w, decode_cut_error, armOf_eq_none_iff]

end Sys2Proof

namespace Sys2Proof.Machine

/-- A selector with a counter field is formed from the value the counter holds. -/
theorem withCount_eq_selector {form : Count → Selector} {cnt : Option Count} {w : Selector}
    (h : Fetched.withCount form cnt = .selector w) : ∃ c, cnt = some c ∧ w = form c := by
  cases cnt with
  | none => cases h
  | some c => exact ⟨c, rfl, (Fetched.selector.inj h).symm⟩

theorem decode_passSelector {k : CauseClass} (hk : k ≠ .aas) : ∃ i, decode (passSelector k) = .ok i := by
  cases k
  case aas => exact absurd rfl hk
  all_goals exact ⟨_, rfl⟩

theorem decode_withCount_receiver {cnt : Option Count} {w : Selector}
    (h : Fetched.withCount receiverSelector cnt = .selector w) : ∃ i, decode w = .ok i := by
  obtain ⟨c, -, rfl⟩ := withCount_eq_selector h
  exact ⟨_, decode_receiverSelector c⟩

theorem decode_withCount_transmitter {cnt : Option Count} {w : Selector}
    (h : Fetched.withCount transmitterSelector cnt = .selector w) : ∃ i, decode w = .ok i := by
  obtain ⟨c, -, rfl⟩ := withCount_eq_selector h
  exact ⟨_, decode_transmitterSelector c⟩

/-- Every selector dispatch 1 forms decodes to an arm. -/
theorem fetchDispatch1_decodes {s : State} {w : Selector} (h : s.fetchDispatch1 = .selector w) :
    ∃ i, decode w = .ok i := by
  by_cases hk : s.sampleCause = .aas
  case neg =>
    obtain rfl := Fetched.selector.inj ((fetchDispatch1_pass rfl hk).symm.trans h)
    exact decode_passSelector hk
  case pos =>
    simp only [State.fetchDispatch1, hk] at h
    cases hd : s.sampleDir <;> simp only [hd] at h
    case receiver => exact decode_withCount_receiver h
    case transmitter => exact decode_withCount_transmitter h
    case unrecognised => exact Fetched.selector.inj h ▸ ⟨_, decode_dirBadSelector⟩

/-- Every selector the fetch forms decodes to an arm. -/
theorem fetch_decodes {s : State} {w : Selector} (h : s.fetch = .selector w) : ∃ i, decode w = .ok i := by
  by_cases hr : s.event = some .reset
  · exact Fetched.selector.inj ((fetch_reset hr).symm.trans h) ▸ ⟨_, decode_hostSelector _⟩
  cases hp : s.phase
  case idle =>
    cases he : s.event with
    | none => exact absurd ((fetch_idle_none hp he).symm.trans h) nofun
    | some e => exact Fetched.selector.inj ((fetch_idle_event hp he).symm.trans h) ▸ ⟨_, decode_hostSelector e⟩
  case d1 => exact fetchDispatch1_decodes ((fetch_d1 hp hr).symm.trans h)
  case d2 =>
    by_cases hf : s.dispatch2Fires s.sampleCause = true
    · exact Fetched.selector.inj ((fetch_d2_of_fires hp hr hf).symm.trans h) ▸ ⟨_, decode_dispatch2Selector _⟩
    · exact absurd ((fetch_d2_of_not_fires hp hr hf).symm.trans h) nofun
  case ack => exact absurd ((fetch_ack_halted (.inl hp) hr).symm.trans h) nofun
  case halted => exact absurd ((fetch_ack_halted (.inr hp) hr).symm.trans h) nofun
  all_goals simp only [State.fetch, hp, if_neg hr] at h
  case waitRx | rxUpd => exact decode_withCount_receiver h
  case waitTx | txUpd => exact decode_withCount_transmitter h

/-- Settles O3: cut at the counter field, having no arm and being reserved are one check of the upper byte; what the fetch
forms has an arm. -/
theorem reservedSelectorsRefusedAndNeverFormed : Obligations.ReservedSelectorsRefusedAndNeverFormed := by
  refine ⟨decode_error_iff, fun s w hw hres => ?_⟩
  obtain ⟨i, hi⟩ := fetch_decodes hw
  obtain ⟨r, hr⟩ := (decode_error_iff w).mpr hres
  exact absurd (hi.symm.trans hr) nofun

end Sys2Proof.Machine
end

section
/-! What a step does in each phase, as equations, and then said once for every step without RESET: `Move` lists what such a
step can make of the block before its inputs are consumed. -/

namespace Sys2Proof.Machine

/-! ### RESET, IDLE, ACK and HALTED -/

theorem step_reset {s : State} (he : s.event = some .reset) : step s = .next s.powerOn.consume :=
  step_of_selector (fetch_reset he) (decode_hostSelector .reset)

theorem step_idle_none {s : State} (hp : s.phase = .idle) (he : s.event = none) : step s = .next s.consume := by
  rw [step_of_phaseStep (fetch_idle_none hp he), State.ownStep, hp]

theorem step_configure {s : State} (hp : s.phase = .idle) (he : s.event = some .configure) :
    step s = .next s.configure.consume := by
  rw [step_of_selector (fetch_idle_event hp he) (decode_hostSelector .configure), exec_configure, inIdle_of_idle _ hp,
    mapNext]

theorem exec_invoke (s : State) : exec .invoke s = inIdle
    (fun s => if s.configured = false then s.raiseFatal .unconfiguredInvocation else s.goto .d1) s := rfl

theorem exec_invoke_of_idle {s : State} (hp : s.phase = .idle) : exec .invoke s =
    .next (if s.configured = false then s.raiseFatal .unconfiguredInvocation else s.goto .d1) :=
  (exec_invoke s).trans (inIdle_of_idle _ hp)

theorem step_invoke {s : State} (hp : s.phase = .idle) (he : s.event = some .invoke) : step s =
    .next (if s.configured = false then s.raiseFatal .unconfiguredInvocation else s.goto .d1).consume := by
  rw [step_of_selector (fetch_idle_event hp he) (decode_hostSelector .invoke), exec_invoke_of_idle hp, mapNext]

theorem step_ack {s : State} (hp : s.phase = .ack) (hr : s.NotReset) : step s = .next s.ackReturn.consume := by
  rw [step_of_phaseStep (fetch_ack_halted (.inl hp) hr), State.ownStep_of_ack hp]

theorem step_halted {s : State} (hp : s.phase = .halted) (hr : s.NotReset) : step s = .next s.consume := by
  rw [step_of_phaseStep (fetch_ack_halted (.inr hp) hr), State.ownStep, hp]

/-! ### Dispatch 1 -/

theorem step_d1_pass {s : State} (hp : s.phase = .d1) (hr : s.NotReset) (hk : s.sampleCause ≠ .aas) :
    step s = .next (s.goto .d2).consume := by
  obtain ⟨i, hmem⟩ : ∃ i, (i, s.sampleCause) ∈ passArms := by
    revert hk
    cases s.sampleCause <;> simp [passArms]
  obtain ⟨-, hexec, hstep⟩ := dispatchOnePassesOtherCauses.2 s i s.sampleCause hmem
  rw [hstep hp hr rfl, hexec hp, mapNext, State.goto]

theorem step_dirBad {s : State} (hp : s.phase = .d1) (hr : s.NotReset) (hk : s.sampleCause = .aas)
    (hd : s.sampleDir = .unrecognised) : step s = .next (s.raiseFatal .unexpectedDirectionState).consume := by
  have hfetch := (fetch_d1 hp hr).trans (fetchDispatch1_unrecognised hk hd)
  rw [step_of_selector hfetch decode_dirBadSelector, exec_dirBad, inD1_of_d1 _ hp, mapNext]

/-! ### The addressed phases -/

theorem step_waitRx {s : State} {c : Count} (hp : s.phase = .waitRx) (hr : s.NotReset) (hc : s.cnt = some c) :
    step s = .next s.pollReceive.consume := by
  obtain ⟨update, hexec⟩ := exec_receiverArm c s
  rw [step_receiver (.inl hp) hr hc, hexec, receiverArm_of_waitRx update hp hc, mapNext]

theorem step_waitTx {s : State} {c : Count} (hp : s.phase = .waitTx) (hr : s.NotReset) (hc : s.cnt = some c) :
    step s = .next s.pollTransmit.consume := by
  obtain ⟨update, hexec⟩ := exec_transmitterArm c s
  rw [step_transmitter (.inl hp) hr hc, hexec, transmitterArm_of_waitTx update hp hc, mapNext]

/-- The receiver's update by its counter, with `v` in the receive register (R78 to R81). -/
def State.receiveUpdate (c : Count) (v : Byte) (s : State) : State :=
  if c = 2 then (((s.writeDxr v).writeCnt 1).writeCnt 0).goto .d2
  else if c = 1 then (s.writeCnt 0).goto .d2
  else s.goto .d2

/-- The transmitter's update by its counter, with `v` in the receive register (R84 to R88). -/
def State.transmitUpdate (c : Count) (v : Byte) (s : State) : State :=
  if c = 0 then (s.writeCnt 1).goto .d2
  else if c = 1 then ((s.writeDxr v).writeCnt 2).goto .d2
  else if c = 2 then ((s.writeDxr Config.constA).writeCnt 3).goto .d2
  else ((s.writeDxr Config.constB).writeCnt 2).goto .d2

theorem step_rxUpd {s : State} {c : Count} (hp : s.phase = .rxUpd) (hr : s.NotReset) (hc : s.cnt = some c) :
    step s = .next (s.receiveUpdate c s.sampleDrr).consume := by
  rw [step_receiver (.inr hp) hr hc, State.receiveUpdate]
  split_ifs with h2 h1
  · rw [exec_rxC2, receiverArm_of_rxUpd _ hp (h2 ▸ hc), mapNext]
  · rw [exec_rxC1, receiverArm_of_rxUpd _ hp (h1 ▸ hc), mapNext]
  · rw [exec_rxCx h1 h2, receiverArm_of_rxUpd _ hp hc, mapNext]

theorem step_txUpd {s : State} {c : Count} (hp : s.phase = .txUpd) (hr : s.NotReset) (hc : s.cnt = some c) :
    step s = .next (s.transmitUpdate c s.sampleDrr).consume := by
  rw [step_transmitter (.inr hp) hr hc, State.transmitUpdate]
  split_ifs with h0 h1 h2
  · rw [exec_txC0, transmitterArm_of_txUpd _ hp (h0 ▸ hc), mapNext]
  · rw [exec_txC1, transmitterArm_of_txUpd _ hp (h1 ▸ hc), mapNext]
  · rw [exec_txC2, transmitterArm_of_txUpd _ hp (h2 ▸ hc), mapNext]
  · rw [exec_txCx h0 h1 h2, transmitterArm_of_txUpd _ hp hc, mapNext]

/-! ### Dispatch 2 -/

/-- The fault that a class raises in dispatch 2, for the four fatal classes (R92, R94 to R96). -/
def dispatch2Fault : CauseClass → Option FaultKind
  | .undef => some .unreachableInterruptCause
  | .xrdy  => some .protocolViolationTxReady
  | .rrdy  => some .protocolViolationRxReady
  | .nack  => some .notAcknowledged
  | .scd | .aas => none

theorem dispatch2Fault_ne_unconfigured {k : CauseClass} {f : FaultKind} (h : dispatch2Fault k = some f) :
    f ≠ .unconfiguredInvocation := by
  rintro rfl
  cases k <;> cases h

/-- The arm of a fatal class is the fatal path with the class's fault. -/
theorem exec_dispatch2Instr_fatal {k : CauseClass} {f : FaultKind} (h : dispatch2Fault k = some f) (s : State) :
    exec (dispatch2Instr k) s = dispatch2Arm k (State.raiseFatal f) s := by
  cases k <;> cases h <;> rfl

theorem step_d2_fatal {s : State} {f : FaultKind} (hp : s.phase = .d2) (hr : s.NotReset)
    (hf : s.dispatch2Fires s.sampleCause = true) (hk : dispatch2Fault s.sampleCause = some f) :
    step s = .next (s.raiseFatal f).consume := by
  rw [step_d2_of_fires hp hr hf, exec_dispatch2Instr_fatal hk, dispatch2Arm_of_fires _ hp hf, mapNext]

theorem step_d2_stop {s : State} (hp : s.phase = .d2) (hr : s.NotReset) (hk : s.sampleCause = .scd)
    (hf : s.dispatch2Fires .scd = true) : step s = .next s.configure.continueDispatch2.consume := by
  rw [step_d2_of_fires hp hr (hk ▸ hf), hk, dispatch2Instr, exec_d2Scd, dispatch2Arm_of_fires _ hp hf, mapNext]

theorem step_d2_of_not_fires {s : State} (hp : s.phase = .d2) (hr : s.NotReset)
    (hf : ¬s.dispatch2Fires s.sampleCause = true) : step s = .next s.continueDispatch2.consume := by
  rw [step_of_phaseStep (fetch_d2_of_not_fires hp hr hf), State.ownStep_of_d2 hp]

/-- Addressed-as-slave ends a comparison as a class that does not match does, under either sampling (R97). -/
theorem step_d2_aas {s : State} (hp : s.phase = .d2) (hr : s.NotReset) (hk : s.sampleCause = .aas) :
    step s = .next s.continueDispatch2.consume := by
  by_cases hf : s.dispatch2Fires s.sampleCause = true
  · have hsingle := State.dispatch2Fires_aas (hk ▸ hf)
    rw [step_d2_of_fires hp hr hf, hk, dispatch2Instr, exec_d2None, dispatch2Arm_of_fires _ hp (hk ▸ hf), mapNext,
      State.continueDispatch2_of_single hsingle, State.goto]
  · exact step_d2_of_not_fires hp hr hf

/-! ### Every step without RESET -/

/-- What a step without RESET can make of the block (R67): the phase it is taken in and the operation it runs. -/
inductive Move (s : State) : State → Prop where
  | hold (hp : s.phase = .idle ∨ s.phase = .waitRx ∨ s.phase = .waitTx ∨ s.phase = .halted) : Move s s
  | configure (hp : s.phase = .idle) : Move s s.configure
  | enter (hp : s.phase = .idle) (hc : s.configured = true) : Move s (s.goto .d1)
  | unconfigured (hp : s.phase = .idle) : Move s (s.raiseFatal .unconfiguredInvocation)
  | pass (hp : s.phase = .d1) : Move s (s.goto .d2)
  | enterReceiver (hp : s.phase = .d1) : Move s s.enterReceiver
  | enterTransmitter (hp : s.phase = .d1) : Move s s.enterTransmitter
  | receiveReady (hp : s.phase = .waitRx) : Move s (s.goto .rxUpd)
  | transmitReady (hp : s.phase = .waitTx) : Move s (s.goto .txUpd)
  /-- RX_C2: the echo, and the counter through 1 to 0. -/
  | receiveByte (v : Byte) (hp : s.phase = .rxUpd) : Move s ((((s.writeDxr v).writeCnt 1).writeCnt 0).goto .d2)
  /-- RX_C1 and TX_C0: a counter alone is written. -/
  | count (n : Count) (hp : s.phase = .rxUpd ∨ s.phase = .txUpd) (hn : n.toNat ≤ 3) : Move s ((s.writeCnt n).goto .d2)
  /-- RX_CX: nothing is written. -/
  | skip (hp : s.phase = .rxUpd) : Move s (s.goto .d2)
  /-- TX_C1, TX_C2 and TX_CX: a byte and then a counter are written. -/
  | transmitByte (v : Byte) (n : Count) (hp : s.phase = .txUpd) (hn : n.toNat ≤ 3) :
      Move s (((s.writeDxr v).writeCnt n).goto .d2)
  | fatal (k : FaultKind) (hp : s.phase = .d1 ∨ s.phase = .d2) (hk : k ≠ .unconfiguredInvocation) :
      Move s (s.raiseFatal k)
  | stop (hp : s.phase = .d2) : Move s s.configure.continueDispatch2
  | next (hp : s.phase = .d2) : Move s s.continueDispatch2
  | ack (hp : s.phase = .ack) : Move s s.ackReturn

theorem Move.receiveUpdate {s : State} (c : Count) (v : Byte) (hp : s.phase = .rxUpd) :
    Move s (s.receiveUpdate c v) := by
  unfold State.receiveUpdate
  split_ifs
  · exact .receiveByte _ hp
  · exact .count 0 (.inl hp) (by decide)
  · exact .skip hp

theorem Move.transmitUpdate {s : State} (c : Count) (v : Byte) (hp : s.phase = .txUpd) :
    Move s (s.transmitUpdate c v) := by
  unfold State.transmitUpdate
  split_ifs
  · exact .count 1 (.inr hp) (by decide)
  · exact .transmitByte _ 2 hp (by decide)
  · exact .transmitByte _ 3 hp (by decide)
  · exact .transmitByte _ 2 hp (by decide)

theorem Move.pollReceive {s : State} (hp : s.phase = .waitRx) : Move s s.pollReceive := by
  obtain ⟨-, e⟩ | ⟨-, e⟩ := s.pollReceive_cases
  · exact e ▸ .receiveReady hp
  · exact e.symm ▸ .hold (.inr (.inl hp))

theorem Move.pollTransmit {s : State} (hp : s.phase = .waitTx) : Move s s.pollTransmit := by
  obtain ⟨-, e⟩ | ⟨-, e⟩ := s.pollTransmit_cases
  · exact e ▸ .transmitReady hp
  · exact e.symm ▸ .hold (.inr (.inr (.inl hp)))

/-- An offered event in IDLE that is not RESET: CONFIGURE, INVOKE or none (R53). -/
theorem exists_move_of_idle {s : State} (hp : s.phase = .idle) (hr : s.NotReset) :
    ∃ u, Move s u ∧ step s = .next u.consume := by
  cases he : s.event with
  | none => exact ⟨s, .hold (.inl hp), step_idle_none hp he⟩
  | some e =>
    cases e
    case reset => exact absurd he hr
    case configure => exact ⟨_, .configure hp, step_configure hp he⟩
    case invoke =>
      refine ⟨_, ?_, step_invoke hp he⟩
      split_ifs with hc
      · exact .unconfigured hp
      · exact .enter hp (by simpa using hc)

/-- Where the selector holds the counter and the counter no value, the fetch says so (U7). -/
theorem fetch_of_no_count {s : State} (hr : s.NotReset) (hc : s.cnt = none)
    (hp : s.phase ∈ [Phase.waitRx, .rxUpd, .waitTx, .txUpd] ∨
      s.phase = .d1 ∧ s.sampleCause = .aas ∧ s.sampleDir ≠ .unrecognised) : s.fetch = .noCount := by
  rw [State.fetch, if_neg hr, hc]
  obtain hp | ⟨hp, hk, hd⟩ := hp
  case inl =>
    simp only [List.mem_cons, List.not_mem_nil, or_false] at hp
    obtain hp | hp | hp | hp := hp <;> simp only [hp, Fetched.withCount]
  case inr =>
    simp only [hp, State.fetchDispatch1, hk, hc]
    cases hdir : s.sampleDir
    case unrecognised => exact absurd hdir hd
    all_goals rfl

/-- Dispatch 1, by the cause and the direction sample (R69 to R71). -/
theorem exists_move_of_d1 {s : State} (hp : s.phase = .d1) (hr : s.NotReset)
    (hcount : s.sampleCause = .aas → s.sampleDir ≠ .unrecognised → ∃ c, s.cnt = some c) :
    ∃ u, Move s u ∧ step s = .next u.consume := by
  by_cases hk : s.sampleCause = .aas
  case neg => exact ⟨_, .pass hp, step_d1_pass hp hr hk⟩
  case pos =>
    cases hd : s.sampleDir
    case receiver =>
      obtain ⟨c, hc⟩ := hcount hk (hd ▸ nofun)
      exact ⟨_, .enterReceiver hp,
        step_receiver_of_d1 hp hc ((fetch_d1 hp hr).trans (fetchDispatch1_receiver hk hd hc))⟩
    case transmitter =>
      obtain ⟨c, hc⟩ := hcount hk (hd ▸ nofun)
      exact ⟨_, .enterTransmitter hp,
        step_transmitter_of_d1 hp hc ((fetch_d1 hp hr).trans (fetchDispatch1_transmitter hk hd hc))⟩
    case unrecognised => exact ⟨_, .fatal _ (.inl hp) (by decide), step_dirBad hp hr hk hd⟩

/-- Dispatch 2, where the sample fires its arm or not (R90, R91). -/
theorem exists_move_of_d2 {s : State} (hp : s.phase = .d2) (hr : s.NotReset) :
    ∃ u, Move s u ∧ step s = .next u.consume := by
  by_cases hf : s.dispatch2Fires s.sampleCause = true
  case neg => exact ⟨_, .next hp, step_d2_of_not_fires hp hr hf⟩
  case pos =>
    cases hk : dispatch2Fault s.sampleCause with
    | some f => exact ⟨_, .fatal f (.inr hp) (dispatch2Fault_ne_unconfigured hk), step_d2_fatal hp hr hf hk⟩
    | none =>
      obtain hscd | haas : s.sampleCause = .scd ∨ s.sampleCause = .aas := by
        revert hk
        cases s.sampleCause <;> simp [dispatch2Fault]
      · exact ⟨_, .stop hp, step_d2_stop hp hr hscd (hscd ▸ hf)⟩
      · exact ⟨_, .next hp, step_d2_aas hp hr haas⟩

/-- A step without RESET is a move, if the counter holds a value where the selector needs it. -/
theorem exists_move {s : State} (hr : s.NotReset) (hfetch : s.fetch ≠ .noCount) :
    ∃ u, Move s u ∧ step s = .next u.consume := by
  have hcount (hp : s.phase ∈ [Phase.waitRx, .rxUpd, .waitTx, .txUpd] ∨
      s.phase = .d1 ∧ s.sampleCause = .aas ∧ s.sampleDir ≠ .unrecognised) : ∃ c, s.cnt = some c :=
    Option.ne_none_iff_exists'.mp fun hc => hfetch (fetch_of_no_count hr hc hp)
  cases hp : s.phase
  case idle => exact exists_move_of_idle hp hr
  case d1 => exact exists_move_of_d1 hp hr fun hk hd => hcount (.inr ⟨hp, hk, hd⟩)
  case d2 => exact exists_move_of_d2 hp hr
  case ack => exact ⟨_, .ack hp, step_ack hp hr⟩
  case halted => exact ⟨_, .hold (.inr (.inr (.inr hp))), step_halted hp hr⟩
  all_goals obtain ⟨c, hc⟩ := hcount (.inl (by simp [hp]))
  case waitRx => exact ⟨_, .pollReceive hp, step_waitRx hp hr hc⟩
  case waitTx => exact ⟨_, .pollTransmit hp, step_waitTx hp hr hc⟩
  case rxUpd => exact ⟨_, .receiveUpdate c _ hp, step_rxUpd hp hr hc⟩
  case txUpd => exact ⟨_, .transmitUpdate c _ hp, step_txUpd hp hr hc⟩

/-- Every step without RESET that answers a next state is a move, and then the inputs are consumed. -/
theorem move_of_step {s t : State} (hr : s.NotReset) (h : step s = .next t) : ∃ u, Move s u ∧ t = u.consume := by
  have hfetch : s.fetch ≠ .noCount := fun hf => by simp only [step, hf, reduceCtorEq] at h
  obtain ⟨u, hm, hu⟩ := exists_move hr hfetch
  exact ⟨u, hm, Host.Outcome.next.inj (h.symm.trans hu)⟩

end Sys2Proof.Machine
end

section
/-! The invariant of the block (10_state.md sections 2 to 7): what each operation needs to keep it, and that every step
does. -/

namespace Sys2Proof.Machine

/-! ### What the invariant says of a phase -/

theorem State.Inv.fault_eq_none {s : State} (h : s.Inv) (hp : s.phase ≠ .halted) : s.fault = none :=
  not_not.mp fun hf => hp (h.halted.mpr hf)

theorem State.Inv.d2i_eq_zero {s : State} (h : s.Inv) (hp : s.phase ≠ .d2) : s.d2i = 0 :=
  not_not.mp fun hi => hp (h.index hi).1

theorem State.Inv.configured_of_inInvocation {s : State} {p : Phase} (h : s.Inv) (hp : s.phase = p)
    (hin : p.inInvocation = true) : s.configured = true := h.entered (hp ▸ hin)

/-! ### The operations that keep it -/

theorem State.Inv.consume {s : State} (h : s.Inv) : s.consume.Inv :=
  ⟨h.halted, h.index, h.counted, h.image, h.entered, h.range, h.receiving, h.transmitting, h.unaddressed⟩

theorem State.Inv.acknowledge {s : State} (h : s.Inv) : s.acknowledge.Inv :=
  ⟨h.halted, h.index, h.counted, h.image, h.entered, h.range, h.receiving, h.transmitting, h.unaddressed⟩

theorem State.Inv.writeDxr {s : State} (h : s.Inv) (v : Byte) : (s.writeDxr v).Inv :=
  ⟨h.halted, h.index, h.counted, h.image, h.entered, h.range, h.receiving, h.transmitting, h.unaddressed⟩

/-- The counter may be written once the block is configured, with a value of at most 3 (R14, R76). -/
theorem State.Inv.writeCnt {s : State} (h : s.Inv) (hc : s.configured = true) {n : Count} (hn : n.toNat ≤ 3) :
    (s.writeCnt n).Inv :=
  ⟨h.halted, h.index, iff_of_true hc nofun, h.image, h.entered, fun _ e => Option.some.inj e ▸ hn, h.receiving,
    h.transmitting, h.unaddressed⟩

/-- A phase may be entered that is not HALTED, whose role stands, and outside D2 with the index 0. -/
theorem State.Inv.goto {s : State} (h : s.Inv) {p : Phase} (hs : s.phase ≠ .halted) (hp : p ≠ .halted)
    (hi : s.d2i = 0) (hc : s.configured = true) (hrx : p = .waitRx ∨ p = .rxUpd → s.role = .addressedRx)
    (htx : p = .waitTx ∨ p = .txUpd → s.role = .addressedTx) : (s.goto p).Inv :=
  ⟨iff_of_false hp (not_not.mpr (h.fault_eq_none hs)), fun hn => absurd hi hn, h.counted, h.image, fun _ => hc, h.range,
    hrx, htx, h.unaddressed⟩

/-- The phases that no role goes with. -/
theorem State.Inv.goto_of_no_role {s : State} (h : s.Inv) {p : Phase} (hs : s.phase ≠ .halted) (hi : s.d2i = 0)
    (hc : s.configured = true) (hp : p ∈ [Phase.idle, .d1, .d2, .ack]) : (s.goto p).Inv := by
  have hne : p ≠ .halted ∧ p ≠ .waitRx ∧ p ≠ .rxUpd ∧ p ≠ .waitTx ∧ p ≠ .txUpd := by
    revert hp; cases p <;> decide
  obtain ⟨hp, h1, h2, h3, h4⟩ := hne
  exact h.goto hs hp hi hc (fun e => (e.elim h1 h2).elim) (fun e => (e.elim h3 h4).elim)

/-- In D1 the role of either direction may be taken. -/
theorem State.Inv.setRole {s : State} (h : s.Inv) (hp : s.phase = .d1) (r : Role) : (s.setRole r).Inv where
  halted       := h.halted
  index        := h.index
  counted      := h.counted
  image        := h.image
  entered      := h.entered
  range        := h.range
  receiving    := fun e => by simp [hp] at e
  transmitting := fun e => by simp [hp] at e
  unaddressed  := fun hc => absurd ((h.configured_of_inInvocation hp rfl).symm.trans hc) nofun

/-- The fatal path leaves what the counter, the image and the role are (R106). -/
theorem State.Inv.raiseFatal {s : State} (h : s.Inv) (k : FaultKind) : (s.raiseFatal k).Inv where
  halted       := by simp
  index        := by simp
  counted      := by simpa using h.counted
  image        := by simpa using h.image
  entered      := by simp [Phase.inInvocation]
  range        := by simpa using h.range
  receiving    := by simp
  transmitting := by simp
  unaddressed  := by simpa using h.unaddressed

/-- The configurator may run where no addressed phase is under way (R62). -/
theorem State.Inv.configure {s : State} (h : s.Inv) (hp : s.phase = .idle ∨ s.phase = .d2) : s.configure.Inv where
  halted       := h.halted
  index        := h.index
  counted      := by simp
  image        := by simp
  entered      := fun _ => rfl
  range        := fun _ e => Option.some.inj e ▸ by decide
  receiving    := by obtain hp | hp := hp <;> simp [hp]
  transmitting := by obtain hp | hp := hp <;> simp [hp]
  unaddressed  := by simp

/-- Under `PerArm` the index may move on in D2 (R91). -/
theorem State.Inv.setIndex {s : State} (h : s.Inv) (hp : s.phase = .d2) {i : Fin 5}
    (hi : i ≠ 0 → s.params.d2Sampling = .perArm) : ({ s with d2i := i } : State).Inv :=
  ⟨h.halted, fun hn => ⟨hp, hi hn⟩, h.counted, h.image, h.entered, h.range, h.receiving, h.transmitting, h.unaddressed⟩

/-- Going on with dispatch 2 (R90, R91). -/
theorem State.Inv.continueDispatch2 {s : State} (h : s.Inv) (hp : s.phase = .d2) : s.continueDispatch2.Inv := by
  have hc := h.configured_of_inInvocation hp rfl
  have hs : s.phase ≠ .halted := hp ▸ nofun
  obtain ⟨hsamp, e⟩ | ⟨-, -, e⟩ | ⟨hsamp, -, e⟩ := s.continueDispatch2_cases
  · have hi : s.d2i = 0 := not_not.mp fun hi => nomatch hsamp.symm.trans (h.index hi).2
    exact e ▸ h.goto_of_no_role hs hi hc (by simp)
  · exact e ▸ (h.setIndex hp (i := 0) fun hn => absurd rfl hn).goto_of_no_role hs rfl hc (by simp)
  · exact e ▸ h.setIndex hp fun _ => hsamp

/-- Right after RESET nothing is configured, counted or addressed (R116). -/
theorem State.powerOn_inv (s : State) : s.powerOn.Inv := by
  constructor <;> simp [Phase.inInvocation]

/-- Settles O51: the reset state meets each clause with its literal values. -/
theorem resetMeetsTheInvariant : Obligations.ResetMeetsTheInvariant := by
  unfold Obligations.ResetMeetsTheInvariant
  constructor <;> simp [State.reset, Phase.inInvocation]

/-! ### Every step keeps it -/

/-- Every move keeps the invariant. -/
theorem Move.keeps_inv {s u : State} (hm : Move s u) (h : s.Inv) : u.Inv := by
  have hd2 {t : State} (ht : t.Inv) (hp : t.phase = .rxUpd ∨ t.phase = .txUpd) : (t.goto .d2).Inv := by
    have hne : t.phase ≠ .halted ∧ t.phase ≠ .d2 := by obtain hp | hp := hp <;> simp [hp]
    exact ht.goto_of_no_role hne.1 (ht.d2i_eq_zero hne.2)
      (ht.entered (by obtain hp | hp := hp <;> rw [hp] <;> rfl)) (by simp)
  cases hm with
  | hold => exact h
  | configure hp => exact h.configure (.inl hp)
  | enter hp hc => exact h.goto_of_no_role (hp ▸ nofun) (h.d2i_eq_zero (hp ▸ nofun)) hc (by simp)
  | unconfigured => exact h.raiseFatal _
  | pass hp =>
    exact h.goto_of_no_role (hp ▸ nofun) (h.d2i_eq_zero (hp ▸ nofun)) (h.configured_of_inInvocation hp rfl) (by simp)
  | enterReceiver hp =>
    exact (h.setRole hp .addressedRx).goto (hp ▸ nofun) nofun (h.d2i_eq_zero (hp ▸ nofun))
      (h.configured_of_inInvocation hp rfl) (fun _ => rfl) nofun
  | enterTransmitter hp =>
    exact (h.setRole hp .addressedTx).goto (hp ▸ nofun) nofun (h.d2i_eq_zero (hp ▸ nofun))
      (h.configured_of_inInvocation hp rfl) nofun (fun _ => rfl)
  | receiveReady hp =>
    exact h.goto (hp ▸ nofun) nofun (h.d2i_eq_zero (hp ▸ nofun)) (h.configured_of_inInvocation hp rfl)
      (fun _ => h.receiving (.inl hp)) nofun
  | transmitReady hp =>
    exact h.goto (hp ▸ nofun) nofun (h.d2i_eq_zero (hp ▸ nofun)) (h.configured_of_inInvocation hp rfl) nofun
      (fun _ => h.transmitting (.inl hp))
  | receiveByte v hp =>
    have hc := h.configured_of_inInvocation hp rfl
    exact hd2 (((h.writeDxr v).writeCnt hc (by decide)).writeCnt hc (by decide)) (.inl hp)
  | count n hp hn =>
    have hc : s.configured = true := h.entered (by obtain hp | hp := hp <;> rw [hp] <;> rfl)
    exact hd2 (h.writeCnt hc hn) hp
  | skip hp => exact hd2 h (.inl hp)
  | transmitByte v n hp hn => exact hd2 ((h.writeDxr v).writeCnt (h.configured_of_inInvocation hp rfl) hn) (.inr hp)
  | fatal k => exact h.raiseFatal k
  | stop hp => exact (h.configure (.inr hp)).continueDispatch2 hp
  | next hp => exact h.continueDispatch2 hp
  | ack hp =>
    exact h.acknowledge.goto_of_no_role (hp ▸ nofun) (h.d2i_eq_zero (hp ▸ nofun)) (h.configured_of_inInvocation hp rfl)
      (by simp)

/-- Settles O52: RESET establishes the invariant, every other step is a move and keeps it. -/
theorem everyStepKeepsTheInvariant : Obligations.EveryStepKeepsTheInvariant := by
  intro s t h hstep
  by_cases hr : s.event = some .reset
  · obtain rfl := Host.Outcome.next.inj ((step_reset hr).symm.trans hstep)
    exact s.powerOn_inv.consume
  · obtain ⟨u, hm, rfl⟩ := move_of_step hr hstep
    exact (hm.keeps_inv h).consume

/-! ### No step is refused -/

/-- The fetch misses the counter only inside an invocation, with no counter (R49, U7). -/
theorem no_count_of_fetch {s : State} (h : s.fetch = .noCount) : s.cnt = none ∧ s.phase.inInvocation = true := by
  have hform {form : Count → Selector} (h : Fetched.withCount form s.cnt = .noCount) : s.cnt = none := by
    cases hc : s.cnt with
    | none => rfl
    | some c => rw [hc] at h; cases h
  have hr : s.event ≠ some .reset := fun hr => nomatch (fetch_reset hr).symm.trans h
  cases hp : s.phase
  case idle =>
    cases he : s.event with
    | none => exact nomatch (fetch_idle_none hp he).symm.trans h
    | some e => exact nomatch (fetch_idle_event hp he).symm.trans h
  case d2 =>
    rw [fetch_d2 hp hr, State.fetchDispatch2] at h
    split_ifs at h
  case ack => exact nomatch (fetch_ack_halted (.inl hp) hr).symm.trans h
  case halted => exact nomatch (fetch_ack_halted (.inr hp) hr).symm.trans h
  case d1 =>
    rw [fetch_d1 hp hr] at h
    refine ⟨?_, rfl⟩
    by_cases hk : s.sampleCause = .aas
    case neg => exact nomatch (fetchDispatch1_pass rfl hk).symm.trans h
    case pos =>
      simp only [State.fetchDispatch1, hk] at h
      cases hd : s.sampleDir <;> simp only [hd] at h
      case unrecognised => cases h
      all_goals exact hform h
  all_goals
    simp only [State.fetch, hp, if_neg hr] at h
    exact ⟨hform h, rfl⟩

/-- Settles O55: the invariant gives the counter a value in every phase of an invocation, so the fetch never misses it. -/
theorem noStepIsRefusedUnderTheInvariant : Obligations.NoStepIsRefusedUnderTheInvariant := by
  intro s h
  by_cases hr : s.event = some .reset
  · exact ⟨_, step_reset hr⟩
  · have hfetch : s.fetch ≠ .noCount := by
      intro hf
      obtain ⟨hc, hp⟩ := no_count_of_fetch hf
      exact h.counted.mp (h.entered hp) hc
    obtain ⟨u, -, hu⟩ := exists_move hr hfetch
    exact ⟨_, hu⟩

end Sys2Proof.Machine
end

section
/-! The agreement of the output trace with the registers (10_state.md sections 5 to 8): what one more event means for the
last writes and the halts of a trace, and that every step keeps the agreement. -/

namespace Sys2Proof.Machine

/-! ### One more event -/

theorem lastCount_append_cntWrite (tr : List Event) (v : Count) : lastCount (tr ++ [.cntWrite v]) = some v := by
  rw [lastCount, List.foldl_append]; rfl

theorem lastCount_append_of_ne (tr : List Event) {e : Event} (he : ∀ v, e ≠ .cntWrite v) :
    lastCount (tr ++ [e]) = lastCount tr := by
  rw [lastCount, List.foldl_append]
  cases e
  case cntWrite v => exact absurd rfl (he v)
  all_goals rfl

theorem lastImage_append_cfgWrite (tr : List Event) (i : CfgImage) : lastImage (tr ++ [.cfgWrite i]) = some i := by
  rw [lastImage, List.foldl_append]; rfl

theorem lastImage_append_of_ne (tr : List Event) {e : Event} (he : ∀ i, e ≠ .cfgWrite i) :
    lastImage (tr ++ [e]) = lastImage tr := by
  rw [lastImage, List.foldl_append]
  cases e
  case cfgWrite i => exact absurd rfl (he i)
  all_goals rfl

theorem lastByte_append_dxrWrite (tr : List Event) (v : Byte) : lastByte (tr ++ [.dxrWrite v]) = some v := by
  rw [lastByte, List.foldl_append]; rfl

/-- A new image leaves no byte known (R62). -/
theorem lastByte_append_cfgWrite (tr : List Event) (i : CfgImage) : lastByte (tr ++ [.cfgWrite i]) = none := by
  rw [lastByte, List.foldl_append]; rfl

theorem lastByte_append_of_ne (tr : List Event) {e : Event} (he : ∀ v, e ≠ .dxrWrite v) (he' : ∀ i, e ≠ .cfgWrite i) :
    lastByte (tr ++ [e]) = lastByte tr := by
  rw [lastByte, List.foldl_append]
  cases e
  case dxrWrite v => exact absurd rfl (he v)
  case cfgWrite i => exact absurd rfl (he' i)
  all_goals rfl

@[simp] theorem halts_append (tr tr' : List Event) : halts (tr ++ tr') = halts tr ++ halts tr' :=
  List.filterMap_append

/-! ### The operations that keep the agreement -/

theorem State.TraceAgrees.consume {s : State} (h : s.TraceAgrees) : s.consume.TraceAgrees :=
  ⟨h.count, h.image, h.byte, h.fault⟩

theorem State.TraceAgrees.goto {s : State} (h : s.TraceAgrees) (p : Phase) : (s.goto p).TraceAgrees :=
  ⟨h.count, h.image, h.byte, h.fault⟩

theorem State.TraceAgrees.setRole {s : State} (h : s.TraceAgrees) (r : Role) : (s.setRole r).TraceAgrees :=
  ⟨h.count, h.image, h.byte, h.fault⟩

theorem State.TraceAgrees.setIndex {s : State} (h : s.TraceAgrees) (i : Fin 5) :
    ({ s with d2i := i } : State).TraceAgrees :=
  ⟨h.count, h.image, h.byte, h.fault⟩

/-- An event that is no register write and no halt leaves what the trace tells. -/
theorem State.TraceAgrees.acknowledge {s : State} (h : s.TraceAgrees) : s.acknowledge.TraceAgrees where
  count := (lastCount_append_of_ne _ (by nofun)).trans h.count
  image := (lastImage_append_of_ne _ (by nofun)).trans h.image
  byte  := fun w hw => h.byte w ((lastByte_append_of_ne _ (by nofun) (by nofun)).symm.trans hw)
  fault := by simpa [halts] using h.fault

theorem State.TraceAgrees.writeCnt {s : State} (h : s.TraceAgrees) (v : Count) : (s.writeCnt v).TraceAgrees where
  count := lastCount_append_cntWrite _ v
  image := (lastImage_append_of_ne _ (by nofun)).trans h.image
  byte  := fun w hw => h.byte w ((lastByte_append_of_ne _ (by nofun) (by nofun)).symm.trans hw)
  fault := by simpa [halts] using h.fault

theorem State.TraceAgrees.writeDxr {s : State} (h : s.TraceAgrees) (v : Byte) : (s.writeDxr v).TraceAgrees where
  count := (lastCount_append_of_ne _ (by nofun)).trans h.count
  image := (lastImage_append_of_ne _ (by nofun)).trans h.image
  byte  := fun _ hw => Option.some.inj ((lastByte_append_dxrWrite _ v).symm.trans hw)
  fault := by simpa [halts] using h.fault

/-- After the configurator no byte is known, so the free byte in `dxr` agrees (R19, R62). -/
theorem State.TraceAgrees.configure {s : State} (h : s.TraceAgrees) : s.configure.TraceAgrees where
  count := lastCount_append_cntWrite _ _
  image := (lastImage_append_of_ne _ (by nofun)).trans (lastImage_append_cfgWrite _ _)
  byte  := fun _ hw => nomatch
    ((lastByte_append_of_ne _ (by nofun) (by nofun)).trans (lastByte_append_cfgWrite s.trace _)).symm.trans hw
  fault := by simpa [halts] using h.fault

/-- The fatal path adds the one halt, if none was recorded before (R21, R106). -/
theorem State.TraceAgrees.raiseFatal {s : State} (h : s.TraceAgrees) (hf : s.fault = none) (k : FaultKind) :
    (s.raiseFatal k).TraceAgrees := by
  have hhalts : halts s.trace = [] := by rw [h.fault, hf]; rfl
  have hhalt : ({ s with fault := some k } : State).emit (.halt k) |>.TraceAgrees :=
    { count := (lastCount_append_of_ne _ (by nofun)).trans h.count
      image := (lastImage_append_of_ne _ (by nofun)).trans h.image
      byte  := fun w hw => h.byte w ((lastByte_append_of_ne _ (by nofun) (by nofun)).symm.trans hw)
      fault := by rw [State.emit_trace, halts_append, hhalts]; rfl }
  have hacked : (if k = .unconfiguredInvocation then ({ s with fault := some k } : State).emit (.halt k)
      else (({ s with fault := some k } : State).emit (.halt k)).acknowledge).TraceAgrees := by
    split_ifs
    · exact hhalt
    · exact hhalt.acknowledge
  exact (hacked.setIndex 0).goto .halted

theorem State.TraceAgrees.continueDispatch2 {s : State} (h : s.TraceAgrees) : s.continueDispatch2.TraceAgrees := by
  obtain ⟨-, e⟩ | ⟨-, -, e⟩ | ⟨-, -, e⟩ := s.continueDispatch2_cases
  · exact e ▸ h.goto .ack
  · exact e ▸ (h.setIndex 0).goto .ack
  · exact e ▸ h.setIndex _

/-- The cleared trace after RESET agrees with the registers that hold no value (R116). -/
theorem State.powerOn_traceAgrees (s : State) : s.powerOn.TraceAgrees := ⟨rfl, rfl, nofun, rfl⟩

/-- Settles O53: the empty trace has no last write and no halt. -/
theorem resetTraceAgreesWithTheState : Obligations.ResetTraceAgreesWithTheState := ⟨rfl, rfl, nofun, rfl⟩

/-! ### Every step keeps it -/

/-- Every move keeps the agreement; the fatal path needs that no fault was recorded before. -/
theorem Move.keeps_traceAgrees {s u : State} (hm : Move s u) (hi : s.Inv) (h : s.TraceAgrees) : u.TraceAgrees := by
  cases hm with
  | hold => exact h
  | configure => exact h.configure
  | enter => exact h.goto _
  | unconfigured hp => exact h.raiseFatal (hi.fault_eq_none (hp ▸ nofun)) _
  | pass => exact h.goto _
  | enterReceiver => exact (h.setRole _).goto _
  | enterTransmitter => exact (h.setRole _).goto _
  | receiveReady => exact h.goto _
  | transmitReady => exact h.goto _
  | receiveByte => exact (((h.writeDxr _).writeCnt _).writeCnt _).goto _
  | count => exact (h.writeCnt _).goto _
  | skip => exact h.goto _
  | transmitByte => exact ((h.writeDxr _).writeCnt _).goto _
  | fatal k hp =>
    have hne : s.phase ≠ .halted := by obtain hp | hp := hp <;> simp [hp]
    exact h.raiseFatal (hi.fault_eq_none hne) k
  | stop => exact h.configure.continueDispatch2
  | next => exact h.continueDispatch2
  | ack => exact h.acknowledge.goto _

/-- Settles O54: RESET clears the trace with the registers, every other step is a move and keeps the agreement. -/
theorem everyStepKeepsTheTraceInAgreement : Obligations.EveryStepKeepsTheTraceInAgreement := by
  intro s t hi h hstep
  by_cases hr : s.event = some .reset
  · obtain rfl := Host.Outcome.next.inj ((step_reset hr).symm.trans hstep)
    exact s.powerOn_traceAgrees.consume
  · obtain ⟨u, hm, rfl⟩ := move_of_step hr hstep
    exact (hm.keeps_traceAgrees hi h).consume

end Sys2Proof.Machine
end

section
/-! What a step without RESET does to the phase and to the trace (10_state.md section 8, 41_entry_classifier.md rules R67 and
R75), move by move. -/

namespace Sys2Proof.Machine

/-- Dispatch 2 goes on by the phase and the index alone (R90, R91). -/
theorem State.continueDispatch2_eq (s : State) : s.continueDispatch2 =
    { s with phase := s.continueDispatch2.phase, d2i := s.continueDispatch2.d2i } := by
  obtain ⟨-, e⟩ | ⟨-, -, e⟩ | ⟨-, -, e⟩ := s.continueDispatch2_cases <;> rw [e] <;> rfl

@[simp] theorem State.continueDispatch2_trace (s : State) : s.continueDispatch2.trace = s.trace :=
  (congrArg State.trace s.continueDispatch2_eq).trans rfl

/-- The events a move appends. -/
theorem Move.trace_eq_append {s u : State} (hm : Move s u) :
    ∃ added : List Event, u.trace = s.trace ++ added ∧ added.length ≤ 3 := by
  cases hm
  case configure => exact ⟨[.cfgWrite (configImage s.params), .cntWrite Config.initCnt], by simp, by simp⟩
  case unconfigured => exact ⟨[.halt .unconfiguredInvocation], by simp, by simp⟩
  case receiveByte v _ => exact ⟨[.dxrWrite v, .cntWrite 1, .cntWrite 0], by simp, by simp⟩
  case count n _ _ => exact ⟨[.cntWrite n], by simp, by simp⟩
  case transmitByte v n _ _ => exact ⟨[.dxrWrite v, .cntWrite n], by simp, by simp⟩
  case fatal k _ hk => exact ⟨[.halt k, .groupAck s.params.ackGroup], by simp [hk], by simp⟩
  case stop => exact ⟨[.cfgWrite (configImage s.params), .cntWrite Config.initCnt], by simp, by simp⟩
  case ack => exact ⟨[.groupAck s.params.ackGroup], by simp, by simp⟩
  all_goals exact ⟨[], by simp, by simp⟩

/-- Settles O45: every step without RESET is a move, and a move appends at most three events. -/
theorem traceOnlyGrowsBetweenResets : Obligations.TraceOnlyGrowsBetweenResets := by
  intro s t hr hstep
  obtain ⟨u, hm, rfl⟩ := move_of_step hr hstep
  exact hm.trace_eq_append

/-- Going on with dispatch 2 goes to the acknowledge, or to the next comparison (R90, R91). -/
theorem State.continueDispatch2_moves (s : State) : s.continueDispatch2.phase = .ack ∨
    s.continueDispatch2.phase = s.phase ∧ s.continueDispatch2.d2i.val = s.d2i.val + 1 := by
  obtain ⟨-, e⟩ | ⟨-, -, e⟩ | ⟨-, h4, e⟩ := s.continueDispatch2_cases
  · exact .inl (by rw [e, State.goto_phase])
  · exact .inl (by rw [e, State.goto_phase])
  · exact .inr (by rw [e]; exact ⟨rfl, Fin.val_add_one_of_lt (Fin.lt_last_iff_ne_last.mpr h4)⟩)

/-- The transitions of R67. -/
theorem Move.phase_transition {s u : State} (hm : Move s u) : u.phase = s.phase ∨
    (s.phase, u.phase) ∈ [(Phase.idle, Phase.d1), (.idle, .halted), (.d1, .waitRx), (.d1, .waitTx), (.d1, .d2),
      (.d1, .halted), (.waitRx, .rxUpd), (.waitTx, .txUpd), (.rxUpd, .d2), (.txUpd, .d2), (.d2, .ack), (.d2, .halted),
      (.ack, .idle)] := by
  cases hm
  case hold | configure => exact .inl rfl
  case enter hp _ => simp [hp]
  case transmitByte hp _ => simp [hp]
  case count hp _ => obtain hp | hp := hp <;> simp [hp]
  case fatal hp _ => obtain hp | hp := hp <;> simp [hp]
  case stop hp =>
    obtain e | ⟨e, -⟩ := s.configure.continueDispatch2_moves
    · simp [hp, e]
    · exact .inl e
  case next hp =>
    obtain e | ⟨e, -⟩ := s.continueDispatch2_moves
    · simp [hp, e]
    · exact .inl e
  all_goals rename_i hp; simp [hp]

/-- Settles O46: every step without RESET is a move, and each move's phases are the same or a transition of R67. -/
theorem phasesFollowTheInvocationSequence : Obligations.PhasesFollowTheInvocationSequence := by
  intro s t hr hstep
  obtain ⟨u, hm, rfl⟩ := move_of_step hr hstep
  exact hm.phase_transition

/-- A move out of a phase that neither waits, rests nor halts leaves it, or in D2 goes to the next comparison. -/
theorem Move.leaves_phase {s u : State} (hm : Move s u) :
    (s.phase ∈ [Phase.d1, .rxUpd, .txUpd, .ack] → u.phase ≠ s.phase) ∧
    (s.phase = .d2 → u.phase ≠ .d2 ∨ u.d2i.val = s.d2i.val + 1) := by
  cases hm
  case hold hp => obtain hp | hp | hp | hp := hp <;> simp [hp]
  case enter hp _ => simp [hp]
  case count hp _ => obtain hp | hp := hp <;> simp [hp]
  case transmitByte hp _ => simp [hp]
  case fatal hp _ => obtain hp | hp := hp <;> simp [hp]
  case stop hp =>
    obtain e | ⟨-, e⟩ := s.configure.continueDispatch2_moves
    · simp [hp, e]
    · exact ⟨fun hmem => by simp [hp] at hmem, fun _ => .inr e⟩
  case next hp =>
    obtain e | ⟨-, e⟩ := s.continueDispatch2_moves
    · simp [hp, e]
    · exact ⟨fun hmem => by simp [hp] at hmem, fun _ => .inr e⟩
  all_goals rename_i hp; simp [hp]

/-- Settles O47: every step without RESET is a move, and the moves that hold are in IDLE, the waits and HALTED. -/
theorem workingPhasesMoveOn : Obligations.WorkingPhasesMoveOn := by
  intro s t hr hstep
  obtain ⟨u, hm, rfl⟩ := move_of_step hr hstep
  exact hm.leaves_phase

@[simp] theorem acks_append (tr tr' : List Event) : acks (tr ++ tr') = acks tr ++ acks tr' := List.filterMap_append

/-- Going on with dispatch 2 stays inside the invocation. -/
theorem State.continueDispatch2_inInvocation {s : State} (hp : s.phase = .d2) :
    s.continueDispatch2.phase.inInvocation = true := by
  obtain e | ⟨e, -⟩ := s.continueDispatch2_moves
  · rw [e]; rfl
  · rw [e, hp]; rfl

/-- The acknowledges a move appends: one where it leaves the phases of an invocation, none elsewhere. -/
theorem Move.acks_trace {s u : State} (hm : Move s u) : acks u.trace = acks s.trace ++
    (if s.phase.inInvocation = true ∧ u.phase.inInvocation = false then [s.params.ackGroup] else []) := by
  cases hm
  case hold hp => obtain hp | hp | hp | hp := hp <;> simp [hp, Phase.inInvocation]
  case configure hp => simp [hp, acks, Phase.inInvocation]
  case unconfigured hp => simp [hp, acks, Phase.inInvocation]
  case fatal hp hk => obtain hp | hp := hp <;> simp [hp, hk, acks, Phase.inInvocation]
  case stop hp => simp [acks, State.continueDispatch2_inInvocation (s := s.configure) hp]
  case next hp => simp [State.continueDispatch2_inInvocation hp]
  case ack hp => simp [hp, acks, Phase.inInvocation]
  all_goals simp [acks, Phase.inInvocation]

/-- Settles O48: every step without RESET is a move, and the acknowledge and the fatal path are the moves that leave an
invocation. -/
theorem oneAcknowledgePerInvocation : Obligations.OneAcknowledgePerInvocation := by
  intro s t hr hstep
  obtain ⟨u, hm, rfl⟩ := move_of_step hr hstep
  exact hm.acks_trace

end Sys2Proof.Machine
end

section
/-! The codes and the classifiers (10_state.md, 30_encoding.md sections 2, 3 and 5), word by word. -/

namespace Sys2Proof.Machine

/-- Settles O4: each word is cut into its fields by evaluation. -/
theorem writtenOutSelectorsDecode : Obligations.WrittenOutSelectorsDecode :=
  ⟨rfl, rfl, rfl, rfl, rfl, rfl, rfl, rfl, rfl, rfl⟩

/-- No class has one of the two class codes left over (R45, R52). -/
theorem classCode_ne_reserved (k : CauseClass) : classCode k ≠ 0b001 ∧ classCode k ≠ 0b011 := by
  cases k <;> decide

/-- Settles O6: the code tables are evaluated, the reserved class codes excluded class by class. -/
theorem codesAreTheSpecs : Obligations.CodesAreTheSpecs := ⟨rfl, rfl, rfl, classCode_ne_reserved, rfl, rfl⟩

/-- Settles O7: the classifier reads the state's map alone, which is the default one. -/
theorem defaultMapClassifiesTheEightCodes : Obligations.DefaultMapClassifiesTheEightCodes := by
  intro s hmap
  have hclassify : s.classify = causeClassOf Config.defaultCauseMap := by
    funext c
    rw [State.classify, hmap]
  rw [hclassify]
  rfl

/-- A direction bit samples as a recognised state (R46). -/
theorem dirSampleOf_bit_ne_unrecognised (tx b : BitVec 1) : dirSampleOf tx (.bit b) ≠ .unrecognised := by
  rw [dirSampleOf]
  split_ifs <;> decide

/-- Settles O8: the sample compares the bit with the transmitter value, and the four pairs of bits are evaluated. -/
theorem directionBitSamplesByItsTransmitterValue : Obligations.DirectionBitSamplesByItsTransmitterValue :=
  ⟨fun _ _ => rfl, rfl, rfl, rfl, rfl, dirSampleOf_bit_ne_unrecognised, fun _ => rfl, rfl⟩

/-- Of the field's eight bits each class reads its own, at its class code (R20, R45). -/
theorem ierField_getLsbD_classCode (e : IerSet) (k : CauseClass) :
    (ierField e).getLsbD (classCode k).toNat = ierMember e k := by
  obtain ⟨undef, nack, rrdy, xrdy, scd, aas⟩ := e
  revert undef nack rrdy xrdy scd aas
  cases k <;> decide

/-- Settles O17: the image's field is the one of the parameters' set. -/
theorem interruptEnablesStandAtTheirClassCodes : Obligations.InterruptEnablesStandAtTheirClassCodes :=
  fun p => ierField_getLsbD_classCode p.ier

end Sys2Proof.Machine
end

section
/-! Single steps and arms: RESET and CONFIGURE (R60 to R63, R116), the entry into an invocation (R68, R71), the fatal
samples (R98), rest and halt (R107, R125), and the arms where they have no step (R28, R49, R53). -/

namespace Sys2Proof.Machine

/-- Settles O9: it is the model's lemma on the step of a fetched selector. -/
theorem stepRunsTheDecodedArm : Obligations.StepRunsTheDecodedArm := fun _ _ _ => step_of_selector

/-- Settles O14: the reset state is a record of those values. -/
theorem resetStateHoldsTheResetValues : Obligations.ResetStateHoldsTheResetValues :=
  ⟨rfl, rfl, rfl, rfl, rfl, rfl, rfl, rfl⟩

/-- Settles O15: the arm is `powerOn`, whatever the phase, and an offered RESET is always fetched. -/
theorem resetSetsEveryFieldInEveryPhase : Obligations.ResetSetsEveryFieldInEveryPhase :=
  ⟨rfl, fun _ => ⟨rfl, fun he => step_of_selector (fetch_reset he) (decode_hostSelector .reset)⟩⟩

/-- Settles O18: the first CONFIGURE leaves IDLE and the parameters, so the second writes the same image and counter. -/
theorem configuringTwiceIsConfiguringOnce : Obligations.ConfiguringTwiceIsConfiguringOnce := by
  intro s x y rest hp hscript hx hy
  have hinputs : s.inputs = x := State.inputs_of_script hscript
  have hinputs' : s.configure.consume.inputs = y := State.inputs_of_script (congrArg List.tail hscript)
  have hs : s.event = some .configure := by rw [State.event, hinputs, hx]
  have ht : s.configure.consume.event = some .configure := by rw [State.event, hinputs', hy]
  refine ⟨_, _, step_configure hp hs, step_configure hp ht, ?_, rfl, rfl, rfl, ?_, ?_⟩
  · simp
  · rw [State.consume_dxr, State.configure_dxr, State.drawAny8, hinputs]
  · rw [State.consume_dxr, State.configure_dxr, State.drawAny8, hinputs']

/-- A command admitted in IDLE only has no step elsewhere (R53). -/
theorem inIdle_of_ne (run : State → State) {s : State} (h : s.phase ≠ .idle) : inIdle run s = .next s := if_neg h

theorem exec_configure_of_ne {s : State} (h : s.phase ≠ .idle) : exec .configure s = .next s :=
  (exec_configure s).trans (inIdle_of_ne _ h)

theorem exec_invoke_of_ne {s : State} (h : s.phase ≠ .idle) : exec .invoke s = .next s :=
  (exec_invoke s).trans (inIdle_of_ne _ h)

/-- Settles O19: INVOKE is admitted in IDLE only, and there the flag decides. -/
theorem invokeEntersDispatchOneOrFaultsUnconfigured : Obligations.InvokeEntersDispatchOneOrFaultsUnconfigured := by
  refine ⟨rfl, fun s => ⟨fun hp hc => ?_, fun hp hc => ?_, fun hp => exec_invoke_of_ne hp⟩⟩
  · rw [exec_invoke_of_idle hp, if_neg (by simp [hc]), State.goto]
  · rw [exec_invoke_of_idle hp, if_pos hc, State.raiseFatal_eq_record, if_pos rfl]

/-- Settles O21: in D1 the arm is the fatal path with an acknowledged kind. -/
theorem unrecognisedDirectionHalts : Obligations.UnrecognisedDirectionHalts := by
  refine ⟨rfl, fun s hp => ?_⟩
  rw [exec_dirBad, inD1_of_d1 _ hp, State.raiseFatal_eq (by decide)]

/-- Settles O41: the sample's class has a fault, and its arm is the fatal path with it. -/
theorem fatalSamplesHaltWithoutRegisterWrites : Obligations.FatalSamplesHaltWithoutRegisterWrites := by
  intro s hp hr hmem hf
  obtain ⟨k, hk⟩ : ∃ k, dispatch2Fault s.sampleCause = some k := by
    revert hmem
    cases s.sampleCause <;> simp [dispatch2Fault]
  refine ⟨_, k, step_d2_fatal hp hr hf hk, ?_⟩
  simp [dispatch2Fault_ne_unconfigured hk]

/-! ### Rest and halt -/

/-- A HALTED block holds for any number of steps without RESET (R107). -/
theorem run_halted {n : Nat} {s : State} (hp : s.phase = .halted) (hr : s.NoResetFor n) :
    core.run n s = .next (s.elapse n) :=
  run_of_holds fun _ hk => step_halted hp (hr.elapse hk)

/-- Settles O43: each of the steps holds. -/
theorem haltedAbsorbsUntilReset : Obligations.HaltedAbsorbsUntilReset := fun _ _ => run_halted

/-- Settles O59: a step at rest holds, and so does a run of them, since nothing is offered to any. -/
theorem restHoldsTheState : Obligations.RestHoldsTheState :=
  ⟨fun _ h => step_idle_none h.1 h.2, fun _ _ hp he => run_of_holds fun k hk => step_idle_none hp (he k hk)⟩

/-! ### Arms that have no step -/

theorem inD1_of_ne (run : State → State) {s : State} (h : s.phase ≠ .d1) : inD1 run s = .next s := if_neg h

theorem receiverArm_of_elsewhere {c : Count} (update : State → State) {s : State}
    (h : s.phase ∉ [Phase.d1, .waitRx, .rxUpd] ∨ s.cnt ≠ some c) : receiverArm c update s = .next s := by
  obtain ⟨hc, hp, -⟩ | ⟨hc, hp, -⟩ | ⟨hc, hp, -⟩ | e := receiverArm_cases c update s
  case inr.inr.inr => exact e
  all_goals simp [hc, hp] at h

theorem transmitterArm_of_elsewhere {c : Count} (update : State → State) {s : State}
    (h : s.phase ∉ [Phase.d1, .waitTx, .txUpd] ∨ s.cnt ≠ some c) : transmitterArm c update s = .next s := by
  obtain ⟨hc, hp, -⟩ | ⟨hc, hp, -⟩ | ⟨hc, hp, -⟩ | e := transmitterArm_cases c update s
  case inr.inr.inr => exact e
  all_goals simp [hc, hp] at h

theorem dispatch2Arm_of_elsewhere {k : CauseClass} (run : State → State) {s : State}
    (h : s.phase ≠ .d2 ∨ s.dispatch2Fires k = false) : dispatch2Arm k run s = .next s := by
  obtain ⟨hp, hf, -⟩ | e := dispatch2Arm_cases k run s
  · simp [hp, hf] at h
  · exact e

/-- A catch-all arm with the counter of an earlier row, which no selector decodes to, has no step (R51). -/
theorem exec_rxCx_of_earlier_row {c : Count} (h : c = 1 ∨ c = 2) (s : State) : exec (.rxCx c) s = .next s := if_pos h

theorem exec_txCx_of_earlier_row {c : Count} (h : c = 0 ∨ c = 1 ∨ c = 2) (s : State) :
    exec (.txCx c) s = .next s := if_pos h

/-- The catch-all receiver arm is an arm of its counter, or has no step at all (R81). -/
theorem exec_rxCx_of_elsewhere {c : Count} {s : State} (h : s.phase ∉ [Phase.d1, .waitRx, .rxUpd] ∨ s.cnt ≠ some c) :
    exec (.rxCx c) s = .next s := by
  by_cases hx : c = 1 ∨ c = 2
  · exact exec_rxCx_of_earlier_row hx s
  · exact (if_neg hx).trans (receiverArm_of_elsewhere _ h)

/-- The catch-all transmitter arm is an arm of its counter, or has no step at all (R88). -/
theorem exec_txCx_of_elsewhere {c : Count} {s : State} (h : s.phase ∉ [Phase.d1, .waitTx, .txUpd] ∨ s.cnt ≠ some c) :
    exec (.txCx c) s = .next s := by
  by_cases hx : c = 0 ∨ c = 1 ∨ c = 2
  · exact exec_txCx_of_earlier_row hx s
  · exact (if_neg hx).trans (transmitterArm_of_elsewhere _ h)

/-- The arm of a class is a dispatch-2 arm for it (R90, R91). -/
theorem exec_dispatch2Arm (k : CauseClass) (s : State) : ∃ run, exec (dispatch2Instr k) s = dispatch2Arm k run s := by
  cases k
  case scd => exact ⟨_, exec_d2Scd s⟩
  all_goals exact ⟨_, rfl⟩

/-- Settles O50: every arm is one of the shared shapes, and each shape has no step elsewhere. -/
theorem armsHaveNoStepElsewhere : Obligations.ArmsHaveNoStepElsewhere := by
  refine fun s => ⟨fun hp => ⟨exec_configure_of_ne hp, exec_invoke_of_ne hp⟩, ?dispatch1, ?receiver, ?transmitter, ?dispatch2⟩
  case dispatch1 =>
    intro i hmem hp
    fin_cases hmem <;> exact inD1_of_ne _ hp
  case receiver =>
    intro i c hmem h
    simp only [List.mem_cons, Prod.mk.injEq, List.not_mem_nil, or_false, and_true] at hmem
    obtain ⟨rfl, rfl⟩ | ⟨rfl, rfl⟩ | rfl := hmem
    · exact (exec_rxC2 s).trans (receiverArm_of_elsewhere _ h)
    · exact (exec_rxC1 s).trans (receiverArm_of_elsewhere _ h)
    · exact exec_rxCx_of_elsewhere h
  case transmitter =>
    intro i c hmem h
    simp only [List.mem_cons, Prod.mk.injEq, List.not_mem_nil, or_false, and_true] at hmem
    obtain ⟨rfl, rfl⟩ | ⟨rfl, rfl⟩ | ⟨rfl, rfl⟩ | rfl := hmem
    · exact (exec_txC0 s).trans (transmitterArm_of_elsewhere _ h)
    · exact (exec_txC1 s).trans (transmitterArm_of_elsewhere _ h)
    · exact (exec_txC2 s).trans (transmitterArm_of_elsewhere _ h)
    · exact exec_txCx_of_elsewhere h
  case dispatch2 =>
    intro i k hmem h
    have hi : i = dispatch2Instr k := by
      simp only [List.mem_cons, Prod.mk.injEq, List.not_mem_nil, or_false] at hmem
      obtain ⟨rfl, rfl⟩ | ⟨rfl, rfl⟩ | ⟨rfl, rfl⟩ | ⟨rfl, rfl⟩ | ⟨rfl, rfl⟩ | ⟨rfl, rfl⟩ := hmem <;> rfl
    obtain ⟨run, hexec⟩ := exec_dispatch2Arm k s
    rw [hi, hexec, dispatch2Arm_of_elsewhere run h]

end Sys2Proof.Machine
end

section
/-! Which arms write which field (10_state.md sections 2 to 8), arm by arm. -/

namespace Sys2Proof.Machine

/-- A step that forms no selector writes the phase, the sample index and the trace alone (R73, R91). -/
theorem State.ownStep_eq (s : State) : s.ownStep =
    { s with phase := s.ownStep.phase, d2i := s.ownStep.d2i, trace := s.ownStep.trace } := by
  obtain ⟨-, e⟩ | ⟨-, e⟩ | ⟨-, -, e⟩ := s.ownStep_cases
  · rw [e]; rfl
  · rw [e, State.continueDispatch2_eq]
  · rw [e]

/-- Settles O49: an arm that answers a next state has one of the listed effects, and each effect is read field by field. -/
theorem fieldsChangeOnlyByTheirWriters : Obligations.FieldsChangeOnlyByTheirWriters := by
  refine ⟨fun i s t hexec => ?arms, fun s t hfetch hstep => ?phaseSteps⟩
  case phaseSteps =>
    obtain rfl := Host.Outcome.next.inj ((step_of_phaseStep hfetch).symm.trans hstep)
    rw [State.ownStep_eq]
    exact ⟨rfl, rfl, rfl, rfl, rfl, rfl, rfl⟩
  case arms =>
    cases effect_of_exec hexec
    -- The effects that several arms share: the arm is one of a list.
    case enterReceiver hi hp => obtain rfl | rfl | ⟨c, rfl⟩ := hi <;> simp [hp]
    case enterTransmitter hi hp => obtain rfl | rfl | rfl | ⟨c, rfl⟩ := hi <;> simp [hp]
    case receiveReady hi _ _ => obtain rfl | rfl | ⟨c, rfl⟩ := hi <;> simp
    case transmitReady hi _ _ => obtain rfl | rfl | rfl | ⟨c, rfl⟩ := hi <;> simp
    case pass hi _ => fin_cases hi <;> simp
    case d2Fatal hi _ => fin_cases hi <;> simp
    case d2Scd => rw [State.continueDispatch2_eq]; simp
    all_goals simp

end Sys2Proof.Machine
end

section
/-! What a step reads of its inputs (10_state.md section 9, 30_encoding.md sections 1 and 5): inputs that agree on what the
step samples give the same step. -/

namespace Sys2Proof.Machine

/-- Changed by `f`, the inputs of the next step still agree on what that step samples, the draw apart (R23): the event where
it is admitted, and each port in the phase whose rule reads it. -/
structure State.KeepsSamples (f : Inputs → Inputs) (s : State) : Prop where
  event : (f s.inputs).event = s.inputs.event ∨
    s.phase ≠ .idle ∧ s.NotReset ∧ (f s.inputs).event ≠ some .reset := by exact .inl rfl
  cause : s.phase = .d1 ∨ s.phase = .d2 → (f s.inputs).causeIn = s.inputs.causeIn := by exact fun _ => rfl
  dir : s.phase = .d1 → s.sampleCause = .aas → (f s.inputs).dirIn = s.inputs.dirIn := by exact fun _ _ => rfl
  rrdy : s.phase = .waitRx → (f s.inputs).rrdyIn = s.inputs.rrdyIn := by exact fun _ => rfl
  xrdy : s.phase = .waitTx → (f s.inputs).xrdyIn = s.inputs.xrdyIn := by exact fun _ => rfl
  drr : s.phase = .rxUpd ∧ s.cnt = some 2 ∨ s.phase = .txUpd ∧ s.cnt = some 1 →
    (f s.inputs).drrIn = s.inputs.drrIn := by exact fun _ => rfl

/-! ### The fetch -/

theorem fetchDispatch1_offer {f : Inputs → Inputs} {s : State} (hk : (s.offer f).sampleCause = s.sampleCause)
    (hd : s.sampleCause = .aas → (s.offer f).sampleDir = s.sampleDir) :
    (s.offer f).fetchDispatch1 = s.fetchDispatch1 := by
  by_cases haas : s.sampleCause = .aas
  · simp only [State.fetchDispatch1, hk, haas, hd haas, State.offer_cnt]
  · rw [fetchDispatch1_pass hk haas, fetchDispatch1_pass rfl haas]

theorem dispatch2Fires_offer (f : Inputs → Inputs) (s : State) (k : CauseClass) :
    (s.offer f).dispatch2Fires k = s.dispatch2Fires k := rfl

theorem fetchDispatch2_offer {f : Inputs → Inputs} {s : State} (hk : (s.offer f).sampleCause = s.sampleCause) :
    (s.offer f).fetchDispatch2 = s.fetchDispatch2 := by
  simp only [State.fetchDispatch2, hk, dispatch2Fires_offer]

/-- In a phase other than IDLE, of the event only RESET matters to the fetch (log 5). -/
theorem fetch_offer {f : Inputs → Inputs} {s : State} (h : s.KeepsSamples f) : (s.offer f).fetch = s.fetch := by
  have hcause (hp : s.phase = .d1 ∨ s.phase = .d2) : (s.offer f).sampleCause = s.sampleCause :=
    congrArg s.classify (h.cause hp)
  by_cases hp : s.phase = .idle
  case pos =>
    have hevent : (s.offer f).event = s.event := h.event.resolve_right fun hne => hne.1 hp
    simp only [State.fetch, hevent, State.offer_phase, hp]
  case neg =>
    by_cases hr : s.event = some .reset
    · have hevent : (s.offer f).event = s.event := h.event.resolve_right fun hne => hne.2.1 hr
      rw [fetch_reset hr, fetch_reset (hevent.trans hr)]
    · have hr' : (s.offer f).event ≠ some .reset := h.event.elim (fun e he => hr (e.symm.trans he)) fun hne => hne.2.2
      cases hphase : s.phase
      case idle => exact absurd hphase hp
      case d1 =>
        rw [fetch_d1 hphase hr, fetch_d1 (s := s.offer f) hphase hr', fetchDispatch1_offer (hcause (.inl hphase))]
        exact fun haas => congrArg (dirSampleOf s.params.dirTxValue) (h.dir hphase haas)
      case d2 => rw [fetch_d2 hphase hr, fetch_d2 (s := s.offer f) hphase hr', fetchDispatch2_offer (hcause (.inr hphase))]
      all_goals simp only [State.fetch, if_neg hr, if_neg hr', State.offer_phase, hphase, State.offer_cnt]

/-! ### The arms

An arm is run on the changed inputs and on the given ones; the two next states are the same once the inputs are consumed. -/

section
variable {f : Inputs → Inputs} {s : State}

/-- A shape that runs an operation where a condition on the block holds. -/
theorem mapNext_consume_offer_ite {p : Prop} [Decidable p] {u u' : State} (h : u'.consume = u.consume) :
    mapNext State.consume (if p then .next u' else noStep (s.offer f)) =
      mapNext State.consume (if p then .next u else noStep s) := by
  split_ifs
  · exact congrArg Host.Outcome.next h
  · rfl

theorem inIdle_offer {run : State → State} (h : (run (s.offer f)).consume = (run s).consume) :
    mapNext State.consume (inIdle run (s.offer f)) = mapNext State.consume (inIdle run s) :=
  mapNext_consume_offer_ite h

theorem inD1_offer {run : State → State} (h : (run (s.offer f)).consume = (run s).consume) :
    mapNext State.consume (inD1 run (s.offer f)) = mapNext State.consume (inD1 run s) :=
  mapNext_consume_offer_ite h

theorem dispatch2Arm_offer {k : CauseClass} {run : State → State} (h : (run (s.offer f)).consume = (run s).consume) :
    mapNext State.consume (dispatch2Arm k run (s.offer f)) = mapNext State.consume (dispatch2Arm k run s) :=
  mapNext_consume_offer_ite h

/-! The operations that read a sample do so through the field that agrees. -/

theorem raiseFatal_offer (k : FaultKind) : ((s.offer f).raiseFatal k).consume = (s.raiseFatal k).consume := by
  rw [State.raiseFatal_eq_record, State.raiseFatal_eq_record]
  rfl

theorem powerOn_offer (h : (f s.inputs).any8 = s.inputs.any8) : (s.offer f).powerOn.consume = s.powerOn.consume := by
  have hdraw : (s.offer f).drawAny8 = s.drawAny8 := h
  simp only [State.powerOn, hdraw]
  rfl

theorem configure_offer (h : (f s.inputs).any8 = s.inputs.any8) :
    (s.offer f).configure.consume = s.configure.consume := by
  have hdraw : (s.offer f).drawAny8 = s.drawAny8 := h
  rw [State.configure_eq, State.configure_eq, hdraw]
  rfl

theorem pollReceive_offer (h : (f s.inputs).rrdyIn = s.inputs.rrdyIn) :
    (s.offer f).pollReceive.consume = s.pollReceive.consume := by
  have hready : (s.offer f).sampleRrdy = s.sampleRrdy := h
  rw [State.pollReceive, State.pollReceive, hready]
  split_ifs <;> rfl

theorem pollTransmit_offer (h : (f s.inputs).xrdyIn = s.inputs.xrdyIn) :
    (s.offer f).pollTransmit.consume = s.pollTransmit.consume := by
  have hready : (s.offer f).sampleXrdy = s.sampleXrdy := h
  rw [State.pollTransmit, State.pollTransmit, hready]
  split_ifs <;> rfl

/-- Going on with dispatch 2 reads no sample. -/
theorem continueDispatch2_consume {s s' : State} (h : s'.consume = s.consume) :
    s'.continueDispatch2.consume = s.continueDispatch2.consume := by
  have hcomm (s : State) : s.continueDispatch2.consume = s.consume.continueDispatch2 := by
    cases hsamp : s.params.d2Sampling
    · rw [State.continueDispatch2_of_perArm hsamp, State.continueDispatch2_of_perArm (s := s.consume) hsamp,
        State.consume_d2i, apply_ite State.consume]
      rfl
    · rw [State.continueDispatch2_of_single hsamp, State.continueDispatch2_of_single (s := s.consume) hsamp]
      rfl
  rw [hcomm, hcomm, h]

theorem receiverArm_offer {c : Count} {update : State → State} (hs : s.KeepsSamples f)
    (h : s.phase = .rxUpd → s.cnt = some c → (update (s.offer f)).consume = (update s).consume) :
    mapNext State.consume (receiverArm c update (s.offer f)) = mapNext State.consume (receiverArm c update s) := by
  by_cases helse : s.phase ∉ [Phase.d1, .waitRx, .rxUpd] ∨ s.cnt ≠ some c
  case pos =>
    rw [receiverArm_of_elsewhere update helse, receiverArm_of_elsewhere (s := s.offer f) update helse]
    rfl
  case neg =>
    obtain ⟨hp, hc⟩ := not_or.mp helse
    replace hc := not_not.mp hc
    simp only [not_not, List.mem_cons, List.not_mem_nil, or_false] at hp
    obtain hp | hp | hp := hp
    · rw [receiverArm_of_d1 update hp hc, receiverArm_of_d1 (s := s.offer f) update hp hc]
      rfl
    · rw [receiverArm_of_waitRx update hp hc, receiverArm_of_waitRx (s := s.offer f) update hp hc]
      exact congrArg Host.Outcome.next (pollReceive_offer (hs.rrdy hp))
    · rw [receiverArm_of_rxUpd update hp hc, receiverArm_of_rxUpd (s := s.offer f) update hp hc]
      exact congrArg Host.Outcome.next (h hp hc)

theorem transmitterArm_offer {c : Count} {update : State → State} (hs : s.KeepsSamples f)
    (h : s.phase = .txUpd → s.cnt = some c → (update (s.offer f)).consume = (update s).consume) :
    mapNext State.consume (transmitterArm c update (s.offer f)) = mapNext State.consume (transmitterArm c update s) := by
  by_cases helse : s.phase ∉ [Phase.d1, .waitTx, .txUpd] ∨ s.cnt ≠ some c
  case pos =>
    rw [transmitterArm_of_elsewhere update helse, transmitterArm_of_elsewhere (s := s.offer f) update helse]
    rfl
  case neg =>
    obtain ⟨hp, hc⟩ := not_or.mp helse
    replace hc := not_not.mp hc
    simp only [not_not, List.mem_cons, List.not_mem_nil, or_false] at hp
    obtain hp | hp | hp := hp
    · rw [transmitterArm_of_d1 update hp hc, transmitterArm_of_d1 (s := s.offer f) update hp hc]
      rfl
    · rw [transmitterArm_of_waitTx update hp hc, transmitterArm_of_waitTx (s := s.offer f) update hp hc]
      exact congrArg Host.Outcome.next (pollTransmit_offer (hs.xrdy hp))
    · rw [transmitterArm_of_txUpd update hp hc, transmitterArm_of_txUpd (s := s.offer f) update hp hc]
      exact congrArg Host.Outcome.next (h hp hc)

end

/-- An arm's next state is the same once the inputs are consumed; the arms that run RESET or the configurator also read the
draw. -/
theorem exec_offer {i : Instr} {f : Inputs → Inputs} {s : State} (hs : s.KeepsSamples f)
    (hdraw : i ∈ [Instr.reset, .configure, .d2Scd] → (f s.inputs).any8 = s.inputs.any8) :
    mapNext State.consume (exec i (s.offer f)) = mapNext State.consume (exec i s) := by
  cases i
  case reset => exact congrArg Host.Outcome.next (powerOn_offer (hdraw (by simp)))
  case configure =>
    rw [exec_configure, exec_configure]
    exact inIdle_offer (configure_offer (hdraw (by simp)))
  case invoke =>
    rw [exec_invoke, exec_invoke]
    refine inIdle_offer ?_
    rw [State.offer_configured]
    split_ifs
    · exact raiseFatal_offer _
    · rfl
  case rxC2 =>
    rw [exec_rxC2, exec_rxC2]
    refine receiverArm_offer hs fun hp hc => ?_
    have hdrr : (s.offer f).sampleDrr = s.sampleDrr := hs.drr (.inl ⟨hp, hc⟩)
    rw [hdrr]
    rfl
  case rxC1 =>
    rw [exec_rxC1, exec_rxC1]
    exact receiverArm_offer hs fun _ _ => rfl
  case rxCx c =>
    by_cases hx : c = 1 ∨ c = 2
    · rw [exec_rxCx_of_earlier_row hx, exec_rxCx_of_earlier_row hx]
      rfl
    · obtain ⟨h1, h2⟩ := not_or.mp hx
      rw [exec_rxCx h1 h2, exec_rxCx h1 h2]
      exact receiverArm_offer hs fun _ _ => rfl
  case txC0 =>
    rw [exec_txC0, exec_txC0]
    exact transmitterArm_offer hs fun _ _ => rfl
  case txC1 =>
    rw [exec_txC1, exec_txC1]
    refine transmitterArm_offer hs fun hp hc => ?_
    have hdrr : (s.offer f).sampleDrr = s.sampleDrr := hs.drr (.inr ⟨hp, hc⟩)
    rw [hdrr]
    rfl
  case txC2 =>
    rw [exec_txC2, exec_txC2]
    exact transmitterArm_offer hs fun _ _ => rfl
  case txCx c =>
    by_cases hx : c = 0 ∨ c = 1 ∨ c = 2
    · rw [exec_txCx_of_earlier_row hx, exec_txCx_of_earlier_row hx]
      rfl
    · obtain ⟨h0, h1, h2⟩ : c ≠ 0 ∧ c ≠ 1 ∧ c ≠ 2 := by simpa only [not_or] using hx
      rw [exec_txCx h0 h1 h2, exec_txCx h0 h1 h2]
      exact transmitterArm_offer hs fun _ _ => rfl
  case dirBad => exact inD1_offer (raiseFatal_offer _)
  case d2Scd =>
    rw [exec_d2Scd, exec_d2Scd]
    exact dispatch2Arm_offer (continueDispatch2_consume (configure_offer (hdraw (by simp))))
  case d2None => exact dispatch2Arm_offer rfl
  case d2Undef | d2Xrdy | d2Rrdy | d2Nack => exact dispatch2Arm_offer (raiseFatal_offer _)
  case d1PassUndef | d1PassNack | d1PassRrdy | d1PassXrdy | d1PassScd => exact inD1_offer rfl

/-! ### The step -/

theorem ownStep_offer (f : Inputs → Inputs) (s : State) : (s.offer f).ownStep.consume = s.ownStep.consume := by
  cases hp : s.phase
  case ack =>
    rw [State.ownStep_of_ack hp, State.ownStep_of_ack (s := s.offer f) hp]
    rfl
  case d2 =>
    rw [State.ownStep_of_d2 hp, State.ownStep_of_d2 (s := s.offer f) hp]
    exact continueDispatch2_consume rfl
  all_goals simp only [State.ownStep, State.offer_phase, hp]; rfl

/-- Inputs that agree on what the step samples and on the draw give the same step. -/
theorem step_offer {f : Inputs → Inputs} {s : State} (hs : s.KeepsSamples f)
    (hdraw : (f s.inputs).any8 = s.inputs.any8) : step (s.offer f) = step s := by
  cases hfetch : s.fetch with
  | selector w =>
    obtain ⟨i, hi⟩ := fetch_decodes hfetch
    rw [step_of_selector hfetch hi, step_of_selector ((fetch_offer hs).trans hfetch) hi, exec_offer hs fun _ => hdraw]
  | phaseStep => rw [step_of_phaseStep hfetch, step_of_phaseStep ((fetch_offer hs).trans hfetch), ownStep_offer]
  | noCount => simp only [step, hfetch, (fetch_offer hs).trans hfetch]

/-- Settles O12: each clause's change keeps the samples, since the port is not the one the phase reads. -/
theorem portsAreSampledOnlyByTheirRules : Obligations.PortsAreSampledOnlyByTheirRules := by
  intro s
  refine ⟨fun c h1 h2 => ?cause, fun d h => ?dir, fun r h => ?rrdy, fun r h => ?xrdy, fun b h h' => ?drr⟩
  case cause => exact step_offer { cause := fun hp => (hp.elim h1 h2).elim } rfl
  case dir => exact step_offer { dir := fun hp hk => absurd ⟨hp, hk⟩ h } rfl
  case rrdy => exact step_offer { rrdy := fun hp => absurd hp h } rfl
  case xrdy => exact step_offer { xrdy := fun hp => absurd hp h } rfl
  case drr => exact step_offer { drr := fun hp => (hp.elim h h').elim } rfl

/-- A change of the event alone, outside IDLE and with no RESET before or after. -/
theorem State.keepsSamples_event {s : State} {e : Option HostEvent} (hp : s.phase ≠ .idle) (hr : s.NotReset)
    (he : e ≠ some .reset) : s.KeepsSamples (fun x => { x with event := e }) :=
  { event := .inr ⟨hp, hr, he⟩ }

/-- Settles O11: the offered event is a change of inputs that offer none, and outside IDLE no sample sees it. -/
theorem hostEventsOutsideIdleHaveNoStep : Obligations.HostEventsOutsideIdleHaveNoStep := by
  intro s e hp he
  have hnone : (s.offer fun x => { x with event := none }).NotReset := nofun
  exact step_offer (State.keepsSamples_event (s := s.offer fun x => { x with event := none }) hp hnone
    (e := some e) fun h => he (Option.some.inj h)) rfl

/-- A change of the draw alone. -/
theorem State.keepsSamples_draw (b : Byte) (s : State) : s.KeepsSamples (fun x => { x with any8 := b }) := { }

/-- The configurator with another draw (R62). -/
theorem configure_offer_draw (b : Byte) (s : State) :
    (s.offer fun x => { x with any8 := b }).configure.consume = (s.configure.setDxr b).consume := by
  rw [State.configure_eq, State.configure_eq]
  rfl

theorem continueDispatch2_setDxr (b : Byte) (s : State) :
    (s.setDxr b).continueDispatch2 = s.continueDispatch2.setDxr b := by
  cases hsamp : s.params.d2Sampling
  · rw [State.continueDispatch2_of_perArm hsamp, State.continueDispatch2_of_perArm (s := s.setDxr b) hsamp,
      apply_ite (State.setDxr b)]
    rfl
  · rw [State.continueDispatch2_of_single hsamp, State.continueDispatch2_of_single (s := s.setDxr b) hsamp]
    rfl

/-- A shape that runs an operation where a condition on the block holds, and the operation puts the draw into `dxr`. -/
theorem mapNext_consume_offer_ite_draw {p : Prop} [Decidable p] {f : Inputs → Inputs} {s t u u' : State} {v : Byte}
    (h : u'.consume = (u.setDxr v).consume) (ht : (if p then .next u else noStep s) = .next t) :
    ∃ v, mapNext State.consume (if p then .next u' else noStep (s.offer f)) = .next (t.setDxr v).consume := by
  split_ifs at ht ⊢ with hp
  · exact ⟨v, Host.Outcome.next.inj ht ▸ congrArg Host.Outcome.next h⟩
  · exact ⟨s.dxr, Host.Outcome.next.inj ht ▸ rfl⟩

/-- An arm on another draw: its next state has that byte in `dxr`, or is the same. -/
theorem exec_offer_draw {i : Instr} {s t : State} (b : Byte) (h : exec i s = .next t) :
    ∃ v, mapNext State.consume (exec i (s.offer fun x => { x with any8 := b })) = .next (t.setDxr v).consume := by
  by_cases hi : i ∈ [Instr.reset, .configure, .d2Scd]
  case neg => exact ⟨t.dxr, by rw [exec_offer (s.keepsSamples_draw b) (fun hmem => absurd hmem hi), h]; rfl⟩
  case pos =>
    simp only [List.mem_cons, List.not_mem_nil, or_false] at hi
    obtain rfl | rfl | rfl := hi
    case inl => exact ⟨b, Host.Outcome.next.inj h ▸ rfl⟩
    case inr.inl => exact mapNext_consume_offer_ite_draw (configure_offer_draw b s) h
    case inr.inr =>
      refine mapNext_consume_offer_ite_draw (u := s.configure.continueDispatch2) (v := b) ?_ h
      rw [continueDispatch2_consume (configure_offer_draw b s), continueDispatch2_setDxr]

/-- Settles O13: the arms that read the draw are RESET and the two that run the configurator, which put it into `dxr`. -/
theorem theDrawReachesOnlyTheTransmitRegister : Obligations.TheDrawReachesOnlyTheTransmitRegister := by
  intro s t b hstep
  have hfetch := fetch_offer (s.keepsSamples_draw b)
  obtain ⟨w, i, u, hw, hi, hexec, -, rfl⟩ | ⟨hw, rfl⟩ := step_cases hstep
  case inl =>
    obtain ⟨v, hv⟩ := exec_offer_draw b hexec
    exact ⟨v, (step_of_selector (hfetch.trans hw) hi).trans hv⟩
  case inr =>
    refine ⟨s.ownStep.dxr, ?_⟩
    rw [step_of_phaseStep (hfetch.trans hw), ownStep_offer]
    rfl

end Sys2Proof.Machine
end

section
/-! The model's placing of an arm (log 14): what each of the state's offers puts in place, and the selector that the next
step then fetches. -/

namespace Sys2Proof.Machine

/-! ### What an offered cause and direction are sampled as -/

/-- A code that stands for a class is of that class. -/
theorem causeClassOf_codeOfClass {m : CauseMap} {k : CauseClass} {c : CauseCode} (h : codeOfClass m k = some c) :
    causeClassOf m c = k := by
  simpa using List.find?_some h

/-- Under the default map the class codes are the cause codes (R44, R45). -/
theorem causeClassOf_default_classCode (k : CauseClass) : causeClassOf Config.defaultCauseMap (classCode k) = k := by
  cases k <;> rfl

/-- A status samples as the direction it stands for (R46). -/
theorem dirSampleOf_statusOfSample (tx : BitVec 1) (d : DirSample) : dirSampleOf tx (statusOfSample tx d) = d := by
  revert tx
  cases d <;> decide

/-- An offered cause offers no event. -/
theorem offerCause_event (k : CauseClass) (s : State) : (s.offerCause k).event = none := by
  unfold State.offerCause
  split <;> rfl

/-- An offered cause is sampled as its class, by the state's map or, where that has no code for it, by the default one. -/
theorem offerCause_sampleCause (k : CauseClass) (s : State) : (s.offerCause k).sampleCause = k := by
  unfold State.offerCause
  split
  · next c hc => exact causeClassOf_codeOfClass hc
  · exact causeClassOf_default_classCode k

/-- Of the block and its parameters an offered cause replaces the map alone. -/
theorem offerCause_keeps (k : CauseClass) (s : State) :
    (s.offerCause k).phase = s.phase ∧ (s.offerCause k).cnt = s.cnt ∧ (s.offerCause k).d2i = s.d2i ∧
    (s.offerCause k).params.dirTxValue = s.params.dirTxValue ∧
    (s.offerCause k).params.d2Sampling = s.params.d2Sampling := by
  unfold State.offerCause
  split <;> exact ⟨rfl, rfl, rfl, rfl, rfl⟩

/-! ### What is fetched then -/

theorem fetch_offerEvent_reset (s : State) : (s.offerEvent .reset).fetch = .selector (hostSelector .reset) :=
  fetch_reset rfl

theorem fetch_offerEvent_of_idle (e : HostEvent) (s : State) :
    ((s.goto .idle).offerEvent e).fetch = .selector (hostSelector e) := fetch_idle_event rfl rfl

theorem fetch_offerPass {k : CauseClass} (hk : k ≠ .aas) (s : State) :
    (s.offerPass k).fetch = .selector (passSelector k) := by
  obtain ⟨hp, -⟩ := offerCause_keeps k (s.goto .d1)
  exact (fetch_d1 hp ((offerCause_event k _).trans_ne nofun)).trans (fetchDispatch1_pass (offerCause_sampleCause k _) hk)

/-- In D1 with an addressed-as-slave cause and a direction, the counter is kept. -/
theorem offerAddressed_samples (d : DirSample) (s : State) :
    (s.offerAddressed d).phase = .d1 ∧ (s.offerAddressed d).event = none ∧
    (s.offerAddressed d).sampleCause = .aas ∧ (s.offerAddressed d).sampleDir = d ∧
    (s.offerAddressed d).cnt = s.cnt := by
  obtain ⟨hp, hc, -, htx, -⟩ := offerCause_keeps .aas (s.goto .d1)
  refine ⟨hp, offerCause_event .aas _, offerCause_sampleCause .aas _, ?_, hc⟩
  exact (congrArg (dirSampleOf · _) htx).trans (dirSampleOf_statusOfSample _ d)

theorem fetch_offerArm_receiver (c : Count) (s : State) :
    (s.offerArm .receiver c).fetch = .selector (receiverSelector c) := by
  obtain ⟨hp, he, hk, hd, hc⟩ := offerAddressed_samples .receiver { s with cnt := some c }
  exact (fetch_d1 hp (he.trans_ne nofun)).trans (fetchDispatch1_receiver hk hd hc)

theorem fetch_offerArm_transmitter (c : Count) (s : State) :
    (s.offerArm .transmitter c).fetch = .selector (transmitterSelector c) := by
  obtain ⟨hp, he, hk, hd, hc⟩ := offerAddressed_samples .transmitter { s with cnt := some c }
  exact (fetch_d1 hp (he.trans_ne nofun)).trans (fetchDispatch1_transmitter hk hd hc)

theorem fetch_offerAddressed_unrecognised (s : State) :
    (s.offerAddressed .unrecognised).fetch = .selector dirBadSelector := by
  obtain ⟨hp, he, hk, hd, -⟩ := offerAddressed_samples .unrecognised s
  exact (fetch_d1 hp (he.trans_ne nofun)).trans (fetchDispatch1_unrecognised hk hd)

/-- A cause offered in D2, where its class fires. -/
theorem fetch_offerCause_of_d2 {k : CauseClass} {s : State} (hp : s.phase = .d2) (hf : s.dispatch2Fires k = true) :
    (s.offerCause k).fetch = .selector (dispatch2Selector k) := by
  obtain ⟨hp', -, hi, -, hs⟩ := offerCause_keeps k s
  have he := offerCause_event k s
  have hk := offerCause_sampleCause k s
  have hf' : (s.offerCause k).dispatch2Fires k = true := by rwa [State.dispatch2Fires, hs, hi]
  have hfetch := fetch_d2_of_fires (hp'.trans hp) (he.trans_ne nofun) (hk.symm ▸ hf')
  rwa [hk] at hfetch

/-- A class offered at its own comparison fires under either sampling. -/
theorem fetch_offerCompared {i : Fin 5} {k : CauseClass} (hi : comparedClass i = k) (s : State) :
    (s.offerCompared i k).fetch = .selector (dispatch2Selector k) := by
  unfold State.offerCompared
  cases hsamp : s.params.d2Sampling
  case single =>
    exact fetch_offerCause_of_d2 rfl (State.dispatch2Fires_of_single (s := s.goto .d2) hsamp k)
  case perArm =>
    exact fetch_offerCause_of_d2 rfl
      ((State.dispatch2Fires_of_perArm (s := { s.goto .d2 with d2i := i }) hsamp k).mpr hi)

/-- In a placed state the next step fetches the arm's selector. -/
theorem fetch_placeArm (i : Instr) (s : State) : (s.placeArm i).fetch = .selector (encode i) := by
  cases i
  case reset => exact fetch_offerEvent_reset s
  case configure | invoke => exact fetch_offerEvent_of_idle _ s
  case rxC2 | rxC1 | rxCx => exact fetch_offerArm_receiver _ s
  case txC0 | txC1 | txC2 | txCx => exact fetch_offerArm_transmitter _ s
  case dirBad => exact fetch_offerAddressed_unrecognised s
  case d1PassUndef | d1PassNack | d1PassRrdy | d1PassXrdy | d1PassScd => exact fetch_offerPass (by decide) s
  case d2Undef | d2Scd | d2Xrdy | d2Rrdy | d2Nack => exact fetch_offerCompared rfl s
  case d2None => exact fetch_offerCause_of_d2 rfl rfl

/-- The table word of a well-formed arm's selector reads back as the arm. -/
theorem decodeTableWord_encode {i : Instr} (h : i.wellFormed = true) :
    decodeTableWord 24 (encode i).toNat = some i := by
  have hword : BitVec.ofNat 24 ((encode i).toNat % 2 ^ 24) = encode i := by
    rw [Nat.mod_eq_of_lt (encode i).isLt, BitVec.ofNat_toNat, BitVec.setWidth_eq]
  simp only [decodeTableWord, le_refl, if_true, hword, armSelectorsDecodeToTheArm i h]

/-- Settles O10: the word reads back as the arm, the placed state fetches the arm's selector, and that decodes to it. -/
theorem placedSelectorIsTheNextArmRun : Obligations.PlacedSelectorIsTheNextArmRun := by
  intro s i hwf
  have hplace : s.withFetchWord 24 (encode i).toNat = s.placeArm i := by
    rw [State.withFetchWord, decodeTableWord_encode hwf]
  rw [hplace]
  exact ⟨fetch_placeArm i s, step_of_selector (fetch_placeArm i s) (armSelectorsDecodeToTheArm i hwf)⟩

end Sys2Proof.Machine
end

section
/-! Runs through dispatch 2 (44_secondary_dispatch.md rules R90, R91 and R98): a run of comparisons none of which matches,
and one that ends in the halt of the first that does. -/

namespace Sys2Proof.Machine

/-! ### The inputs of later steps -/

/-- The class of the cause offered to the step that is `k` steps ahead (R72). -/
def State.causeAt (k : Nat) (s : State) : CauseClass := s.classify (s.inputsAt k).causeIn

theorem State.elapse_inputsAt (n k : Nat) (s : State) : (s.elapse n).inputsAt k = s.inputsAt (n + k) := by
  simp only [State.elapse, State.inputsAt, State.freeInputs, List.drop_drop, Nat.add_assoc]

theorem State.elapse_elapse (m n : Nat) (s : State) : (s.elapse m).elapse n = s.elapse (m + n) := by
  simp only [State.elapse, List.drop_drop, Nat.add_assoc]

theorem State.elapse_one (s : State) : s.elapse 1 = s.consume := s.elapse_succ 0

theorem State.raiseFatal_inputsAt (f : FaultKind) (k : Nat) (s : State) : (s.raiseFatal f).inputsAt k = s.inputsAt k :=
  State.inputsAt_congr (by simp) (by simp) (by simp) k

theorem State.raiseFatal_elapse (f : FaultKind) (n : Nat) (s : State) :
    (s.elapse n).raiseFatal f = (s.raiseFatal f).elapse n := by
  rw [State.raiseFatal_eq_record, State.raiseFatal_eq_record]
  rfl

/-- The fatal path clears the sample index (R106). -/
theorem State.raiseFatal_setIndex (f : FaultKind) (i : Fin 5) (s : State) :
    ({ s with d2i := i } : State).raiseFatal f = s.raiseFatal f := by
  rw [State.raiseFatal_eq_record, State.raiseFatal_eq_record]

/-! ### Comparisons that do not match -/

/-- None of the comparisons from the present one to before `j` matches its sample, one sample a step (R91). -/
def State.MissesBefore (j : Nat) (s : State) : Prop :=
  ∀ (k : Nat) (i : Fin 5), i.val = s.d2i.val + k → i.val < j → s.causeAt k ≠ comparedClass i

/-- A comparison that does not match and is not the last one (R91). -/
theorem step_perArm_next {s : State} {i : Fin 5} (hp : s.phase = .d2) (hr : s.NotReset)
    (hsamp : s.params.d2Sampling = .perArm) (hne : s.sampleCause ≠ comparedClass s.d2i) (hi : i.val = s.d2i.val + 1) :
    step s = .next ({ s with d2i := i } : State).consume := by
  have hlast : s.d2i ≠ 4 := fun h4 => by
    have : s.d2i.val = 4 := congrArg Fin.val h4
    omega
  have hnext : s.d2i + 1 = i := Fin.ext ((Fin.val_add_one_of_lt (Fin.lt_last_iff_ne_last.mpr hlast)).trans hi.symm)
  rw [(step_perArm_of_ne hp hr hsamp hne).2, if_neg hlast, hnext]

/-- The last comparison, where it does not match (R91). -/
theorem step_perArm_last {s : State} (hp : s.phase = .d2) (hr : s.NotReset) (hsamp : s.params.d2Sampling = .perArm)
    (hne : s.sampleCause ≠ comparedClass s.d2i) (hi : s.d2i = 4) :
    step s = .next ({ s with d2i := 0, phase := .ack } : State).consume := by
  rw [(step_perArm_of_ne hp hr hsamp hne).2, if_pos hi]

/-- When no host event is offered to the next `n` steps, no RESET is offered to the step after fewer that hold. -/
theorem State.NoEventFor.notReset_elapse {n k : Nat} {s : State} (h : s.NoEventFor n) (hk : k < n) :
    (s.elapse k).NotReset := fun hr => nomatch (h k hk).symm.trans hr

/-- A run of comparisons that do not match moves the index on and does nothing else. -/
theorem run_misses {n : Nat} {s : State} {i : Fin 5} (hp : s.phase = .d2) (hsamp : s.params.d2Sampling = .perArm)
    (hi : i.val = s.d2i.val + n) (he : s.NoEventFor n) (hm : s.MissesBefore i.val) :
    core.run n s = .next (({ s with d2i := i } : State).elapse n) := by
  induction n generalizing i with
  | zero =>
    obtain rfl : i = s.d2i := Fin.ext hi
    rfl
  | succ n ih =>
    obtain ⟨i', hi'⟩ : ∃ i' : Fin 5, i'.val = s.d2i.val + n := ⟨⟨s.d2i.val + n, by omega⟩, rfl⟩
    have hlt : i'.val < i.val := by omega
    have hrun := ih hi' (fun k hk => he k (Nat.lt_succ_of_lt hk)) fun k j hj hlt' => hm k j hj (hlt'.trans hlt)
    have hstep := step_perArm_next (s := ({ s with d2i := i' } : State).elapse n) hp
      (he.notReset_elapse n.lt_succ_self) hsamp (hm n i' hi' hlt) (i := i) (show i.val = i'.val + 1 by omega)
    rw [run_add n 1 hrun, run_succ 0 hstep, State.elapse_succ]
    rfl

/-- When no comparison matches, dispatch 2 ends in ACK (R97). -/
theorem run_perArm_none {n : Nat} {s : State} (hp : s.phase = .d2) (hsamp : s.params.d2Sampling = .perArm)
    (hn : s.d2i.val + n = 5) (he : s.NoEventFor n) (hm : s.MissesBefore 5) :
    core.run n s = .next (({ s with d2i := 0, phase := .ack } : State).elapse n) := by
  obtain ⟨n, rfl⟩ : ∃ m, n = m + 1 := ⟨n - 1, by omega⟩
  have hi : (4 : Fin 5).val = s.d2i.val + n := by
    show 4 = _
    omega
  have hrun := run_misses hp hsamp hi (fun k hk => he k (Nat.lt_succ_of_lt hk))
    fun k j hj hlt => hm k j hj (hlt.trans (by decide))
  have hstep := step_perArm_last (s := ({ s with d2i := 4 } : State).elapse n) hp
    (he.notReset_elapse n.lt_succ_self) hsamp (hm n 4 hi (by decide)) rfl
  rw [run_add n 1 hrun, run_succ 0 hstep, State.elapse_succ]
  rfl

/-! ### A comparison that halts -/

/-- When comparison `j` is the first that matches and its class is fatal, the run halts there and stays halted (R106,
R107). -/
theorem run_perArm_fatal {n m : Nat} {s : State} {j : Fin 5} {f : FaultKind} (hp : s.phase = .d2)
    (hsamp : s.params.d2Sampling = .perArm) (hj : j.val = s.d2i.val + m) (hn : m < n) (he : s.NoEventFor n)
    (hm : s.MissesBefore j.val) (hk : s.causeAt m = comparedClass j) (hf : dispatch2Fault (comparedClass j) = some f) :
    core.run n s = .next ((s.raiseFatal f).elapse n) := by
  obtain ⟨r, rfl⟩ : ∃ r, n = m + 1 + r := ⟨n - (m + 1), by omega⟩
  have hrun := run_misses hp hsamp hj (fun k hk => he k (hk.trans hn)) hm
  have hfires : (({ s with d2i := j } : State).elapse m).dispatch2Fires (s.causeAt m) = true :=
    (State.dispatch2Fires_of_perArm (s := ({ s with d2i := j } : State).elapse m) hsamp _).mpr hk.symm
  have hstep := step_d2_fatal (s := ({ s with d2i := j } : State).elapse m) hp (he.notReset_elapse hn) hfires
    ((congrArg dispatch2Fault hk).trans hf)
  have hhalted : core.run r ((s.raiseFatal f).elapse (m + 1)) = .next (((s.raiseFatal f).elapse (m + 1)).elapse r) := by
    refine run_halted rfl fun k hk => ?_
    rw [State.elapse_inputsAt, State.raiseFatal_inputsAt, he _ (by omega)]
    nofun
  rw [State.raiseFatal_elapse, State.raiseFatal_setIndex, ← State.elapse_succ] at hstep
  rw [run_add (m + 1) r ((run_add m 1 hrun).trans (run_succ 0 hstep)), hhalted, State.elapse_elapse]

/-! ### The stop condition -/

/-- The reconfigured block as dispatch 2 goes on with the comparison after the stop condition's (R93). -/
def State.rearmed (s : State) : State := { s.configure with d2i := 2 }

theorem State.rearmed_inputsAt (k : Nat) (s : State) : s.rearmed.inputsAt k = s.inputsAt k :=
  State.inputsAt_congr rfl rfl rfl k

/-- Under `PerArm` a stop condition at its comparison reconfigures, and the next comparison follows (R93). -/
theorem step_perArm_stop {s : State} (hp : s.phase = .d2) (hr : s.NotReset) (hsamp : s.params.d2Sampling = .perArm)
    (hk : s.sampleCause = .scd) (hi : s.d2i = 1) : step s = .next s.rearmed.consume := by
  have hf : s.dispatch2Fires .scd = true := (State.dispatch2Fires_of_perArm hsamp _).mpr (hi ▸ rfl)
  rw [step_d2_stop hp hr hk hf, State.continueDispatch2_of_perArm (s := s.configure) hsamp, State.configure_d2i, hi,
    if_neg (by decide)]
  rfl

/-! ### Equal samples -/

/-- No class is compared twice (R91). -/
theorem comparedClass_injective : Function.Injective comparedClass := by
  unfold Function.Injective
  decide

/-- Every fatal class is compared once (R91, R92, R94 to R96). -/
theorem exists_comparedClass_of_fault {k : CauseClass} {f : FaultKind} (h : dispatch2Fault k = some f) :
    ∃ j, comparedClass j = k := by
  cases k <;> cases h
  exacts [⟨0, rfl⟩, ⟨4, rfl⟩, ⟨3, rfl⟩, ⟨2, rfl⟩]

/-- The state that runs dispatch 2 on the record `x` under `Single`, and on `x` repeated under `PerArm` (R98). -/
def State.onOne (x : Inputs) (rest : List Inputs) (s : State) : State :=
  { s with params := { s.params with d2Sampling := .single }, script := x :: rest }

def State.onFive (x : Inputs) (rest : List Inputs) (s : State) : State :=
  { s with params := { s.params with d2Sampling := .perArm }, script := x :: x :: x :: x :: x :: rest }

section
variable {s : State} {x : Inputs} {rest : List Inputs}

theorem State.onFive_inputsAt {k : Nat} (hk : k < 5) : (s.onFive x rest).inputsAt k = x := by
  interval_cases k <;> rfl

theorem State.onFive_causeAt {k : Nat} (hk : k < 5) : (s.onFive x rest).causeAt k = s.classify x.causeIn := by
  rw [State.causeAt, State.onFive_inputsAt hk]
  rfl

/-- The end states of the two samplings differ in the sampling parameter and the step number alone. -/
def AgreeButSampling (s t u : State) : Prop :=
  u = { t with params := { t.params with d2Sampling := .perArm }, tick := s.tick + 5 } ∧ t.tick = s.tick + 1

variable (he : x.event = none)
include he

theorem State.onFive_noEventFor : (s.onFive x rest).NoEventFor 5 := fun k hk => by rw [State.onFive_inputsAt hk, he]

variable (hp : s.phase = .d2) (hi : s.d2i = 0)
include hp hi

/-- A fatal class halts under either sampling; `PerArm` then waits out its samples. -/
theorem equalSamples_fatal {f : FaultKind} (hf : dispatch2Fault (s.classify x.causeIn) = some f) :
    ∃ t u, core.run 1 (s.onOne x rest) = .next t ∧ core.run 5 (s.onFive x rest) = .next u ∧ AgreeButSampling s t u := by
  obtain ⟨j, hj⟩ := exists_comparedClass_of_fault hf
  have hone := step_d2_fatal (s := s.onOne x rest) hp (he.trans_ne nofun) (State.dispatch2Fires_of_single rfl _) hf
  have hmiss : (s.onFive x rest).MissesBefore j.val := by
    intro k i hik hlt hk
    have hzero : i.val = k := by rw [hik]; exact (congrArg (·.val + k) hi).trans k.zero_add
    rw [State.onFive_causeAt (by omega), ← hj] at hk
    exact absurd (congrArg Fin.val (comparedClass_injective hk)) (by omega)
  have hjm : j.val = (s.onFive x rest).d2i.val + j.val := ((congrArg (·.val + j.val) hi).trans (Nat.zero_add _)).symm
  have hfive := run_perArm_fatal (n := 5) (s := s.onFive x rest) hp rfl hjm j.isLt (State.onFive_noEventFor he) hmiss
    ((State.onFive_causeAt j.isLt).trans hj.symm) (hj.symm ▸ hf)
  refine ⟨_, _, run_succ 0 hone, hfive, ?_⟩
  rw [State.raiseFatal_eq_record, State.raiseFatal_eq_record]
  exact ⟨rfl, rfl⟩

/-- Addressed-as-slave is none of the compared classes (R97). -/
theorem equalSamples_none (hk : s.classify x.causeIn = .aas) :
    ∃ t u, core.run 1 (s.onOne x rest) = .next t ∧ core.run 5 (s.onFive x rest) = .next u ∧ AgreeButSampling s t u := by
  have hone := step_d2_aas (s := s.onOne x rest) hp (he.trans_ne nofun) hk
  rw [State.continueDispatch2_of_single (s := s.onOne x rest) rfl] at hone
  have hmiss : (s.onFive x rest).MissesBefore 5 := fun k i _ _ => by
    rw [State.onFive_causeAt (by omega), hk]
    exact (comparedClass_ne_aas i).symm
  have hfive := run_perArm_none (n := 5) (s := s.onFive x rest) hp rfl (congrArg (·.val + 5) hi)
    (State.onFive_noEventFor he) hmiss
  refine ⟨_, _, run_succ 0 hone, hfive, ?_, rfl⟩
  ext1
  case d2i => exact hi.symm
  all_goals rfl

/-- A stop condition reconfigures at its comparison, and no other comparison matches. -/
theorem equalSamples_stop (hk : s.classify x.causeIn = .scd) :
    ∃ t u, core.run 1 (s.onOne x rest) = .next t ∧ core.run 5 (s.onFive x rest) = .next u ∧ AgreeButSampling s t u := by
  have hone := step_d2_stop (s := s.onOne x rest) hp (he.trans_ne nofun) hk (State.dispatch2Fires_of_single rfl _)
  rw [State.continueDispatch2_of_single (s := (s.onOne x rest).configure) rfl, State.configure_eq] at hone
  have hne (i : Fin 5) (h1 : i.val ≠ 1) : s.classify x.causeIn ≠ comparedClass i :=
    fun h => h1 (congrArg Fin.val (eq_one_of_comparedClass_eq_scd (h.symm.trans hk)))
  have hfirst := run_misses (n := 1) (s := s.onFive x rest) (i := 1) hp rfl (congrArg (·.val + 1) hi).symm
    (fun k hk1 => State.onFive_noEventFor he k (by omega)) fun k i hik hlt => by
      have hlt : i.val < 1 := hlt
      rw [State.onFive_causeAt (by omega)]
      exact hne i hlt.ne
  have hstop := step_perArm_stop (s := ({ s.onFive x rest with d2i := 1 } : State).elapse 1) hp (he.trans_ne nofun) rfl
    hk rfl
  have hlater (k : Nat) (hk3 : k < 3) :
      (({ s.onFive x rest with d2i := 1 } : State).elapse 1).rearmed.consume.inputsAt k = x := by
    rw [State.consume_inputsAt, State.rearmed_inputsAt, State.elapse_inputsAt]
    exact State.onFive_inputsAt (s := s) (rest := rest) (by omega)
  have hlast := run_perArm_none (n := 3) (s := (({ s.onFive x rest with d2i := 1 } : State).elapse 1).rearmed.consume)
    hp rfl rfl (fun k hk3 => by rw [hlater k hk3, he]) fun k i hik hlt => by
      have hik : i.val = 2 + k := hik
      rw [State.causeAt, hlater k (by omega)]
      exact hne i (by omega)
  refine ⟨_, _, run_succ 0 hone, (run_add 1 4 hfirst).trans ((run_succ 3 hstop).trans hlast), ?_, rfl⟩
  rw [State.rearmed, State.configure_eq]
  ext1
  case d2i => exact hi.symm
  all_goals rfl

end

/-- Settles O40: a class that is fatal, the stop condition or addressed-as-slave ends dispatch 2 alike under both. -/
theorem equalSamplesMakeBothSamplingsAgree : Obligations.EqualSamplesMakeBothSamplingsAgree := by
  intro s x rest hp hi he
  cases hf : dispatch2Fault (s.classify x.causeIn) with
  | some f => exact equalSamples_fatal he hp hi hf
  | none =>
    obtain hk | hk : s.classify x.causeIn = .scd ∨ s.classify x.causeIn = .aas := by
      revert hf
      cases s.classify x.causeIn <;> simp [dispatch2Fault]
    · exact equalSamples_stop he hp hi hk
    · exact equalSamples_none he hp hi hk

end Sys2Proof.Machine
end

section
/-! The end of an invocation whose dispatch 2 sees a stop condition (40_configurator.md rule R65, R91, R93). -/

namespace Sys2Proof.Machine

/-- The comparisons left after the stop condition's are XRDY, RRDY and NACK, one sample each (R91). -/
theorem missesBefore_after_stop {s : State} {j : Nat} (hi : s.d2i = 2) (hx : 2 < j → s.causeAt 0 ≠ .xrdy)
    (hr : 3 < j → s.causeAt 1 ≠ .rrdy) (hn : 4 < j → s.causeAt 2 ≠ .nack) : s.MissesBefore j := by
  intro k i hik hlt
  have hik : i.val = 2 + k := by rw [hik, hi]; rfl
  obtain rfl | rfl | rfl : k = 0 ∨ k = 1 ∨ k = 2 := by omega
  · obtain rfl : i = 2 := Fin.ext hik
    exact hx hlt
  · obtain rfl : i = 3 := Fin.ext hik
    exact hr hlt
  · obtain rfl : i = 4 := Fin.ext hik
    exact hn hlt

/-- When one of the three later samples is of the class of its comparison, the first that is halts the block. -/
theorem run_after_stop_fatal {s : State} (hp : s.phase = .d2) (hsamp : s.params.d2Sampling = .perArm) (hi : s.d2i = 2)
    (he : s.NoEventFor 4) (hk : s.causeAt 0 = .xrdy ∨ s.causeAt 1 = .rrdy ∨ s.causeAt 2 = .nack) :
    ∃ f, f ≠ .unconfiguredInvocation ∧ core.run 4 s = .next ((s.raiseFatal f).elapse 4) := by
  have hfatal {m : Nat} {j : Fin 5} {f : FaultKind} (hj : j.val = 2 + m) (hm : s.MissesBefore j.val)
      (hkj : s.causeAt m = comparedClass j) (hf : dispatch2Fault (comparedClass j) = some f) :
      ∃ f, f ≠ .unconfiguredInvocation ∧ core.run 4 s = .next ((s.raiseFatal f).elapse 4) :=
    ⟨f, dispatch2Fault_ne_unconfigured hf,
      run_perArm_fatal hp hsamp (by rw [hi]; exact hj) (by omega) he hm hkj hf⟩
  by_cases hx : s.causeAt 0 = .xrdy
  · exact hfatal (j := 2) rfl (missesBefore_after_stop hi (fun h => absurd h (by decide)) (fun h => absurd h (by decide))
      (fun h => absurd h (by decide))) hx rfl
  by_cases hr : s.causeAt 1 = .rrdy
  · exact hfatal (j := 3) rfl (missesBefore_after_stop hi (fun _ => hx) (fun h => absurd h (by decide))
      (fun h => absurd h (by decide))) hr rfl
  · exact hfatal (j := 4) rfl (missesBefore_after_stop hi (fun _ => hx) (fun _ => hr)
      (fun h => absurd h (by decide)))
      ((hk.resolve_left hx).resolve_left hr) rfl

/-- When none is, dispatch 2 is done, and the acknowledge returns to IDLE. -/
theorem run_after_stop_none {s : State} (hp : s.phase = .d2) (hsamp : s.params.d2Sampling = .perArm) (hi : s.d2i = 2)
    (he : s.NoEventFor 4) (hk : ¬(s.causeAt 0 = .xrdy ∨ s.causeAt 1 = .rrdy ∨ s.causeAt 2 = .nack)) :
    core.run 4 s = .next (({ s with d2i := 0 } : State).ackReturn.elapse 4) := by
  obtain ⟨hx, hr, hn⟩ : s.causeAt 0 ≠ .xrdy ∧ s.causeAt 1 ≠ .rrdy ∧ s.causeAt 2 ≠ .nack := by
    simpa only [not_or] using hk
  have hrun := run_perArm_none (n := 3) hp hsamp (by rw [hi]; rfl) (fun k hk => he k (by omega))
    (missesBefore_after_stop hi (fun _ => hx) (fun _ => hr) fun _ => hn)
  have hack := step_ack (s := ({ s with d2i := 0, phase := .ack } : State).elapse 3) rfl
    (he.notReset_elapse (by omega))
  rw [run_add 3 1 hrun, run_succ 0 hack, State.elapse_succ 3]
  rfl

/-- Settles O56: the firing step reconfigures; under `Single` the acknowledge follows, under `PerArm` the three later
comparisons, of which the first that matches halts. -/
theorem stopConditionLeavesTheSlaveRearmed : Obligations.StopConditionLeavesTheSlaveRearmed := by
  intro s n hp hk hf hn he
  cases hsamp : s.params.d2Sampling
  case single =>
    obtain rfl : n = 2 := by rw [hn, hsamp]
    have hstop := step_d2_stop hp (he.notReset_elapse (k := 0) (by omega)) hk hf
    rw [State.continueDispatch2_of_single (s := s.configure) hsamp] at hstop
    have hr : ({ s.configure with phase := .ack } : State).consume.NotReset := by
      rw [State.NotReset, State.event, State.consume_inputs]
      exact (he 1 (by omega)).trans_ne nofun
    have hack := step_ack rfl hr
    refine ⟨_, (run_succ 1 hstop).trans (run_succ 0 hack), rfl, rfl, rfl, rfl, rfl, fun _ => ⟨rfl, rfl, ?_⟩,
      fun h => nomatch h.1⟩
    simp [State.configure_eq, Config.initCnt]
  case perArm =>
    obtain rfl : n = 5 := by rw [hn, hsamp]
    have hi : s.d2i = 1 := eq_one_of_comparedClass_eq_scd ((State.dispatch2Fires_of_perArm hsamp _).mp hf)
    have hstop := step_perArm_stop hp (he.notReset_elapse (k := 0) (by omega)) hsamp hk hi
    have hinputs (k : Nat) : s.rearmed.consume.inputsAt k = s.inputsAt (k + 1) := by
      rw [State.consume_inputsAt, State.rearmed_inputsAt]
    have hcause (k : Nat) : s.rearmed.consume.causeAt k = s.causeAt (k + 1) := by
      rw [State.causeAt, hinputs]
      rfl
    have he' : s.rearmed.consume.NoEventFor 4 := fun k hk => by rw [hinputs, he (k + 1) (by omega)]
    by_cases hlater : s.causeAt 1 = .xrdy ∨ s.causeAt 2 = .rrdy ∨ s.causeAt 3 = .nack
    case pos =>
      obtain ⟨f, hne, hrun⟩ := run_after_stop_fatal (s := s.rearmed.consume) hp hsamp rfl he' (by simpa only [hcause])
      rw [State.raiseFatal_eq hne] at hrun
      refine ⟨_, (run_succ 4 hstop).trans hrun, rfl, rfl, rfl, rfl, rfl, fun h => absurd ⟨rfl, hlater⟩ h,
        fun _ => ⟨rfl, f, rfl, ?_⟩⟩
      simp [State.elapse, State.rearmed, Config.initCnt]
    case neg =>
      have hrun := run_after_stop_none (s := s.rearmed.consume) hp hsamp rfl he' (by simpa only [hcause])
      refine ⟨_, (run_succ 4 hstop).trans hrun, rfl, rfl, rfl, rfl, rfl, fun _ => ⟨rfl, rfl, ?_⟩,
        fun h => absurd h.2 hlater⟩
      simp [State.elapse, State.rearmed, Config.initCnt]

end Sys2Proof.Machine
end

section
/-! Runs of a whole invocation (41_entry_classifier.md rule R67): the entry into an addressed phase, its wait and update, and
dispatch 2 with nothing to compare. -/

namespace Sys2Proof.Machine

/-! ### The inputs of the invocation -/

/-- The inputs of an entry into an addressed phase: an INVOKE, then an addressed-as-slave cause with a direction sample. -/
structure State.OffersEntry (dir : DirSample) (s : State) : Prop where
  invoke : (s.inputsAt 0).event = some .invoke
  event  : (s.inputsAt 1).event = none
  cause  : s.causeAt 1 = .aas
  dir    : dirSampleOf s.params.dirTxValue (s.inputsAt 1).dirIn = dir

/-- The inputs of `m` polls that find no ready condition, one that does, and an update with `v` in the receive register. -/
structure State.OffersByte (m : Nat) (v : Byte) (s : State) : Prop where
  event  : ∀ k < m + 2, (s.inputsAt k).event = none
  unreadyRx : ∀ k < m, (s.inputsAt k).rrdyIn = 0
  unreadyTx : ∀ k < m, (s.inputsAt k).xrdyIn = 0
  readyRx : (s.inputsAt m).rrdyIn = 1
  readyTx : (s.inputsAt m).xrdyIn = 1
  byte : (s.inputsAt (m + 1)).drrIn = v

/-! ### The entry -/

theorem step_invoke_configured {s : State} (hp : s.phase = .idle) (hc : s.configured = true)
    (he : s.event = some .invoke) : step s = .next (s.goto .d1).consume := by
  rw [step_invoke hp he, if_neg (by simp [hc])]

/-- What the second step of an entry finds in D1. -/
theorem State.OffersEntry.dispatch1 {d : DirSample} {s : State} (h : s.OffersEntry d) :
    ((s.goto .d1).elapse 1).NotReset ∧ ((s.goto .d1).elapse 1).sampleCause = .aas ∧
    ((s.goto .d1).elapse 1).sampleDir = d :=
  ⟨h.event.trans_ne nofun, h.cause, h.dir⟩

/-- INVOKE and dispatch 1 into the receiver (R68, R71). -/
theorem run_enterReceiver {s : State} {c : Count} (hp : s.phase = .idle) (hconf : s.configured = true)
    (hc : s.cnt = some c) (h : s.OffersEntry .receiver) : core.run 2 s = .next (s.enterReceiver.elapse 2) := by
  have hinvoke := step_invoke_configured hp hconf h.invoke
  obtain ⟨hr, hk, hd⟩ := h.dispatch1
  have hd1 := step_receiver_of_d1 (s := (s.goto .d1).elapse 1) rfl hc
    ((fetch_d1 rfl hr).trans (fetchDispatch1_receiver hk hd hc))
  rw [← State.elapse_one] at hinvoke
  rw [run_succ 1 hinvoke, run_succ 0 hd1, State.elapse_succ 1]
  rfl

/-- INVOKE and dispatch 1 into the transmitter (R68, R71). -/
theorem run_enterTransmitter {s : State} {c : Count} (hp : s.phase = .idle) (hconf : s.configured = true)
    (hc : s.cnt = some c) (h : s.OffersEntry .transmitter) : core.run 2 s = .next (s.enterTransmitter.elapse 2) := by
  have hinvoke := step_invoke_configured hp hconf h.invoke
  obtain ⟨hr, hk, hd⟩ := h.dispatch1
  have hd1 := step_transmitter_of_d1 (s := (s.goto .d1).elapse 1) rfl hc
    ((fetch_d1 rfl hr).trans (fetchDispatch1_transmitter hk hd hc))
  rw [← State.elapse_one] at hinvoke
  rw [run_succ 1 hinvoke, run_succ 0 hd1, State.elapse_succ 1]
  rfl

/-! ### The wait and the update -/

theorem State.goto_elapse (p : Phase) (n : Nat) (s : State) : (s.elapse n).goto p = (s.goto p).elapse n := rfl

theorem State.receiveUpdate_elapse (c : Count) (v : Byte) (n : Nat) (s : State) :
    (s.elapse n).receiveUpdate c v = (s.receiveUpdate c v).elapse n := by
  unfold State.receiveUpdate
  split_ifs <;> rfl

theorem State.transmitUpdate_elapse (c : Count) (v : Byte) (n : Nat) (s : State) :
    (s.elapse n).transmitUpdate c v = (s.transmitUpdate c v).elapse n := by
  unfold State.transmitUpdate
  split_ifs <;> rfl

/-- A wait of `m` polls, the poll that ends it, and the step after it. -/
theorem run_wait_update {s u v : State} {m : Nat} (hwait : ∀ k < m, step (s.elapse k) = .next (s.elapse k).consume)
    (hready : step (s.elapse m) = .next (u.elapse (m + 1)))
    (hupdate : step (u.elapse (m + 1)) = .next (v.elapse (m + 2))) : core.run (m + 2) s = .next (v.elapse (m + 2)) :=
  (run_add m 2 (run_of_holds hwait)).trans ((run_succ 1 hready).trans (run_succ 0 hupdate))

/-- The receiver's wait and update (R77, R78). -/
theorem run_receive {s : State} {c : Count} {m : Nat} {v : Byte} (hp : s.phase = .waitRx) (hc : s.cnt = some c)
    (h : s.OffersByte m v) : core.run (m + 2) s = .next (((s.goto .rxUpd).receiveUpdate c v).elapse (m + 2)) := by
  have hr (k : Nat) (hk : k < m + 2) : (s.elapse k).NotReset := (h.event k hk).trans_ne nofun
  refine run_wait_update (u := s.goto .rxUpd)
    (fun k hk => step_waitRx_of_notReady hp (hr k (by omega)) hc (h.unreadyRx k hk)) ?ready ?update
  case ready =>
    rw [step_waitRx (s := s.elapse m) hp (hr m (by omega)) hc,
      State.pollReceive_of_ready (s := s.elapse m) h.readyRx, State.elapse_succ]
    rfl
  case update =>
    have hbyte : ((s.goto .rxUpd).elapse (m + 1)).sampleDrr = v := h.byte
    rw [step_rxUpd (s := (s.goto .rxUpd).elapse (m + 1)) rfl (hr (m + 1) (by omega)) hc, hbyte,
      State.receiveUpdate_elapse, State.elapse_succ (m + 1)]

/-- The transmitter's wait and update (R83, R84). -/
theorem run_transmit {s : State} {c : Count} {m : Nat} {v : Byte} (hp : s.phase = .waitTx) (hc : s.cnt = some c)
    (h : s.OffersByte m v) : core.run (m + 2) s = .next (((s.goto .txUpd).transmitUpdate c v).elapse (m + 2)) := by
  have hr (k : Nat) (hk : k < m + 2) : (s.elapse k).NotReset := (h.event k hk).trans_ne nofun
  refine run_wait_update (u := s.goto .txUpd)
    (fun k hk => step_waitTx_of_notReady hp (hr k (by omega)) hc (h.unreadyTx k hk)) ?ready ?update
  case ready =>
    rw [step_waitTx (s := s.elapse m) hp (hr m (by omega)) hc,
      State.pollTransmit_of_ready (s := s.elapse m) h.readyTx, State.elapse_succ]
    rfl
  case update =>
    have hbyte : ((s.goto .txUpd).elapse (m + 1)).sampleDrr = v := h.byte
    rw [step_txUpd (s := (s.goto .txUpd).elapse (m + 1)) rfl (hr (m + 1) (by omega)) hc, hbyte,
      State.transmitUpdate_elapse, State.elapse_succ (m + 1)]

/-! ### Dispatch 2 without a match, and the acknowledge -/

/-- The number of dispatch-2 samples of an invocation that does not halt (R90, R91). -/
def dispatch2Count : D2Sampling → Nat
  | .single => 1
  | .perArm => 5

/-- Dispatch 2 from its first comparison, when every sample is addressed-as-slave (R97). -/
theorem run_dispatch2_aas {n : Nat} {s : State} (hp : s.phase = .d2) (hi : s.d2i = 0)
    (hn : n = dispatch2Count s.params.d2Sampling) (he : s.NoEventFor n) (hk : ∀ k < n, s.causeAt k = .aas) :
    core.run n s = .next ((s.goto .ack).elapse n) := by
  cases hsamp : s.params.d2Sampling
  case single =>
    obtain rfl : n = 1 := by rw [hn, hsamp]; rfl
    have hstep := step_d2_aas hp (he.notReset_elapse (k := 0) (by omega)) (hk 0 (by omega))
    rw [State.continueDispatch2_of_single hsamp, ← State.elapse_one] at hstep
    exact run_succ 0 hstep
  case perArm =>
    obtain rfl : n = 5 := by rw [hn, hsamp]; rfl
    have hmiss : s.MissesBefore 5 := fun k i _ _ => by
      rw [hk k (by omega)]
      exact (comparedClass_ne_aas i).symm
    have hrun := run_perArm_none (n := 5) hp hsamp (by rw [hi]; rfl) he hmiss
    have hgoto : ({ s with d2i := 0, phase := .ack } : State) = s.goto .ack := by rw [← hi]; rfl
    rwa [hgoto] at hrun

/-- The end of an invocation: dispatch 2 without a match, and the acknowledge (R73, R97). -/
theorem run_dispatch2_return {n : Nat} {s : State} (hp : s.phase = .d2) (hi : s.d2i = 0)
    (hn : n = dispatch2Count s.params.d2Sampling) (he : s.NoEventFor (n + 1)) (hk : ∀ k < n, s.causeAt k = .aas) :
    core.run (n + 1) s = .next (s.ackReturn.elapse (n + 1)) := by
  have hrun := run_dispatch2_aas hp hi hn (fun k hk => he k (by omega)) hk
  have hack := step_ack (s := (s.goto .ack).elapse n) rfl (he.notReset_elapse (by omega))
  rw [run_add n 1 hrun, run_succ 0 hack, State.elapse_succ]
  rfl

end Sys2Proof.Machine
end

section
/-! Invocation lines that reach an addressed phase (30_encoding.md section 8): their inputs, segment by segment, and the runs
of a write and of a read (42_addressed_receive.md, 43_addressed_transmit.md). -/

namespace Sys2Proof.Machine

/-! ### The inputs of a line -/

/-- The inputs of the entry of an addressed invocation whose cause code is `c`: INVOKE and dispatch 1 (R56, R67). -/
def entryInputs (p : Params) (dir : DirSample) (b d : Byte) (c : CauseCode) : List Inputs :=
  [eventInputs .invoke d, { quietInputs c b d with dirIn := statusOfSample p.dirTxValue dir }]

/-- The inputs of its wait and update: `m` polls that find no ready condition, one that does, and the update. -/
def byteInputs (m : Nat) (b d : Byte) (c : CauseCode) : List Inputs :=
  List.replicate m (quietInputs c b d) ++ [{ quietInputs c b d with rrdyIn := 1, xrdyIn := 1 }, quietInputs c b d]

/-- The inputs of its dispatch 2 and its acknowledge. -/
def returnInputs (p : Params) (b d : Byte) (c : CauseCode) : List Inputs :=
  List.replicate (dispatch2Count p.d2Sampling + 1) (quietInputs c b d)

/-- The three segments in order. -/
def addressedLineInputs (p : Params) (dir : DirSample) (m : Nat) (b d : Byte) (c : CauseCode) : List Inputs :=
  entryInputs p dir b d c ++ (byteInputs m b d c ++ returnInputs p b d c)

theorem length_addressedLineInputs (p : Params) (dir : DirSample) (m : Nat) (b d : Byte) (c : CauseCode) :
    (addressedLineInputs p dir m b d c).length = 2 + (m + 2) + (dispatch2Count p.d2Sampling + 1) := by
  simp only [addressedLineInputs, entryInputs, byteInputs, returnInputs, List.length_append, List.length_replicate,
    List.length_cons, List.length_nil]
  omega

/-- The dispatch-2 samples of a line with one cause, and the acknowledge's record. -/
theorem dispatch2Inputs_eq_returnInputs (p : Params) (b d : Byte) (c : CauseCode) :
    (dispatch2Samples p.d2Sampling c []).map (fun c => quietInputs c b d) ++ [quietInputs c b d] =
      returnInputs p b d c := by
  unfold returnInputs
  cases p.d2Sampling <;> rfl

/-- A line whose causes are all addressed-as-slave, with a recognised direction, has the three segments as its inputs. -/
theorem addressedLine_inputs {p : Params} {dir : DirSample} {m : Nat} {b d : Byte} {xs : List Inputs}
    (hdir : dir ≠ .unrecognised) (h : Stimulus.inputs p d (.invoke
      { c1 := .named .aas, dir := some dir, wait := some m, drr := b, c2 := .named .aas }) = some xs) :
    ∃ c, causeClassOf p.causeMap c = .aas ∧ xs = addressedLineInputs p dir m b d c := by
  simp only [Stimulus.inputs, Stimulus.expand, InvokeCommand.inputs, CauseName.code, causeNameCodes] at h
  cases hcode : codeOfClass p.causeMap .aas with
  | none => simp [hcode] at h
  | some c =>
    have hclass := causeClassOf_codeOfClass hcode
    refine ⟨c, hclass, ?_⟩
    simp only [hcode, reduceCtorEq, and_false, if_false, Option.some.injEq] at h
    rw [← h, addressedLineInputs, ← dispatch2Inputs_eq_returnInputs]
    simp [invocationInputs, InvokeCommand.addressed, addressedInputs, hclass, hdir, entryInputs, byteInputs]

/-! ### What the segments offer -/

/-- The record at position `k` of the script is the input of the step that is `k` steps ahead. -/
theorem State.inputsAt_of_getElem? {s : State} {k : Nat} {x : Inputs} (h : s.script[k]? = some x) :
    s.inputsAt k = x := by
  rw [← List.head?_drop] at h
  obtain ⟨ys, hys⟩ := List.head?_eq_some_iff.mp h
  simp only [State.inputsAt, hys]

theorem State.inputsAt_replicate {s : State} {n k : Nat} {x : Inputs} {rest : List Inputs}
    (h : s.script = List.replicate n x ++ rest) (hk : k < n) : s.inputsAt k = x := by
  refine State.inputsAt_of_getElem? ?_
  rw [h, List.getElem?_append_left (by simpa using hk), List.getElem?_replicate, if_pos hk]

theorem State.offersEntry_of_script {s : State} {dir : DirSample} {b d : Byte} {c : CauseCode} {rest : List Inputs}
    (hc : causeClassOf s.params.causeMap c = .aas) (h : s.script = entryInputs s.params dir b d c ++ rest) :
    s.OffersEntry dir := by
  have h0 : s.inputsAt 0 = eventInputs .invoke d := State.inputsAt_of_getElem? (by rw [h]; rfl)
  have h1 : s.inputsAt 1 = { quietInputs c b d with dirIn := statusOfSample s.params.dirTxValue dir } :=
    State.inputsAt_of_getElem? (by rw [h]; rfl)
  refine ⟨by rw [h0]; rfl, by rw [h1]; rfl, ?_, by rw [h1]; exact dirSampleOf_statusOfSample _ dir⟩
  rw [State.causeAt, h1]
  exact hc

theorem State.offersByte_of_script {s : State} {m : Nat} {b d : Byte} {c : CauseCode} {rest : List Inputs}
    (h : s.script = byteInputs m b d c ++ rest) : s.OffersByte m b := by
  rw [byteInputs, List.append_assoc] at h
  have hpoll (k : Nat) (hk : k < m) : s.inputsAt k = quietInputs c b d := State.inputsAt_replicate h hk
  have hready : s.inputsAt m = { quietInputs c b d with rrdyIn := 1, xrdyIn := 1 } :=
    State.inputsAt_of_getElem? (by rw [h, List.getElem?_append_right (by simp)]; simp)
  have hupdate : s.inputsAt (m + 1) = quietInputs c b d :=
    State.inputsAt_of_getElem? (by rw [h, List.getElem?_append_right (by simp)]; simp)
  refine ⟨fun k hk => ?_, fun k hk => by rw [hpoll k hk]; rfl, fun k hk => by rw [hpoll k hk]; rfl,
    by rw [hready], by rw [hready], by rw [hupdate]; rfl⟩
  obtain hk | rfl | rfl : k < m ∨ k = m ∨ k = m + 1 := by omega
  · rw [hpoll k hk]; rfl
  · rw [hready]; rfl
  · rw [hupdate]; rfl

/-- Dispatch 2 and the acknowledge on the inputs of a line. -/
theorem run_returnInputs {s : State} {b d : Byte} {c : CauseCode} {rest : List Inputs} (hp : s.phase = .d2)
    (hi : s.d2i = 0) (hc : causeClassOf s.params.causeMap c = .aas)
    (h : s.script = returnInputs s.params b d c ++ rest) :
    core.run (dispatch2Count s.params.d2Sampling + 1) s =
      .next (s.ackReturn.elapse (dispatch2Count s.params.d2Sampling + 1)) := by
  have hinputs (k : Nat) (hk : k < dispatch2Count s.params.d2Sampling + 1) : s.inputsAt k = quietInputs c b d :=
    State.inputsAt_replicate h hk
  refine run_dispatch2_return hp hi rfl (fun k hk => by rw [hinputs k hk]; rfl) fun k hk => ?_
  rw [State.causeAt, hinputs k (by omega)]
  exact hc

/-! ### The updates -/

/-- The updates go to D2 and leave the index, the parameters and the script (R79 to R81, R85 to R88). -/
theorem State.receiveUpdate_keeps (n : Count) (v : Byte) (s : State) :
    (s.receiveUpdate n v).phase = .d2 ∧ (s.receiveUpdate n v).d2i = s.d2i ∧
    (s.receiveUpdate n v).params = s.params ∧ (s.receiveUpdate n v).script = s.script := by
  unfold State.receiveUpdate
  split_ifs <;> exact ⟨rfl, rfl, rfl, rfl⟩

theorem State.transmitUpdate_keeps (n : Count) (v : Byte) (s : State) :
    (s.transmitUpdate n v).phase = .d2 ∧ (s.transmitUpdate n v).d2i = s.d2i ∧
    (s.transmitUpdate n v).params = s.params ∧ (s.transmitUpdate n v).script = s.script := by
  unfold State.transmitUpdate
  split_ifs <;> exact ⟨rfl, rfl, rfl, rfl⟩

/-! ### The runs -/

/-- The script once the steps of its first segment are taken. -/
theorem elapse_script_of_append {s : State} {xs ys : List Inputs} (h : s.script = xs ++ ys) :
    (s.elapse xs.length).script = ys := by
  simp only [State.elapse, h, List.drop_left]

section
variable {s : State} {dir : DirSample} {m : Nat} {b d : Byte} {c : CauseCode} {rest : List Inputs}

theorem elapse_script_entry (h : s.script = addressedLineInputs s.params dir m b d c ++ rest) :
    (s.elapse 2).script = byteInputs m b d c ++ (returnInputs s.params b d c ++ rest) := by
  rw [addressedLineInputs, List.append_assoc, List.append_assoc] at h
  exact elapse_script_of_append h

theorem elapse_script_byte (h : s.script = addressedLineInputs s.params dir m b d c ++ rest) :
    (s.elapse (2 + (m + 2))).script = returnInputs s.params b d c ++ rest := by
  have hlen : (byteInputs m b d c).length = m + 2 := by simp [byteInputs]
  rw [← State.elapse_elapse, ← hlen]
  exact elapse_script_of_append (elapse_script_entry h)

/-- An addressed invocation: into the wait with `u`, through the update to `v`, and back to IDLE. -/
theorem run_addressed {u v : State} (hc : causeClassOf s.params.causeMap c = .aas)
    (hs : s.script = addressedLineInputs s.params dir m b d c ++ rest) (henter : core.run 2 s = .next (u.elapse 2))
    (hupdate : core.run (m + 2) (u.elapse 2) = .next ((v.elapse 2).elapse (m + 2)))
    (hv : v.phase = .d2 ∧ v.d2i = 0 ∧ v.params = s.params ∧ v.script = s.script) :
    core.run (addressedLineInputs s.params dir m b d c).length s =
      .next (v.ackReturn.elapse (addressedLineInputs s.params dir m b d c).length) := by
  obtain ⟨hp, hi, hparams, hscript⟩ := hv
  have hfirst : core.run (2 + (m + 2)) s = .next (v.elapse (2 + (m + 2))) := by
    rw [run_add 2 (m + 2) henter, hupdate, State.elapse_elapse]
  rw [← hparams] at hs hc ⊢
  have hreturn := run_returnInputs (s := v.elapse (2 + (m + 2))) hp hi hc
    (elapse_script_byte (s := v) (hscript.trans hs))
  rw [length_addressedLineInputs, run_add (2 + (m + 2)) _ hfirst]
  exact hreturn.trans (congrArg Host.Outcome.next (State.elapse_elapse _ _ v.ackReturn))

end

/-- What holds between the lines of a script of writes and reads: at rest, configured, with counter `n` and the inputs `xs`
to come. -/
structure State.Between (n : Count) (xs : List Inputs) (s : State) : Prop where
  phase      : s.phase = .idle
  configured : s.configured = true
  index      : s.d2i = 0
  count      : s.cnt = some n
  script     : s.script = xs

/-- A write line: the entry as receiver, the wait, the update by the counter, and the return. -/
theorem run_writeLine {s : State} {n : Count} {m : Nat} {b d : Byte} {xs rest : List Inputs}
    (h : s.Between n (xs ++ rest)) (hxs : Stimulus.inputs s.params d (.invoke
      { c1 := .named .aas, dir := some .receiver, wait := some m, drr := b, c2 := .named .aas }) = some xs) :
    core.run xs.length s = .next (((s.enterReceiver.goto .rxUpd).receiveUpdate n b).ackReturn.elapse xs.length) := by
  obtain ⟨c, hc, rfl⟩ := addressedLine_inputs (by decide) hxs
  have henter := run_enterReceiver h.phase h.configured h.count
    (State.offersEntry_of_script hc (h.script.trans (List.append_assoc _ _ _)))
  have hbyte : (s.enterReceiver.elapse 2).OffersByte m b := State.offersByte_of_script (elapse_script_entry h.script)
  have hupdate := run_receive (s := s.enterReceiver.elapse 2) rfl h.count hbyte
  rw [State.goto_elapse, State.receiveUpdate_elapse] at hupdate
  obtain ⟨hp, hi, hparams, hscript⟩ := State.receiveUpdate_keeps n b (s.enterReceiver.goto .rxUpd)
  exact run_addressed hc h.script henter hupdate ⟨hp, hi.trans h.index, hparams, hscript⟩

/-- A read line: the entry as transmitter, the wait, the update by the counter, and the return. -/
theorem run_readLine {s : State} {n : Count} {m : Nat} {b d : Byte} {xs rest : List Inputs}
    (h : s.Between n (xs ++ rest)) (hxs : Stimulus.inputs s.params d (.invoke
      { c1 := .named .aas, dir := some .transmitter, wait := some m, drr := b, c2 := .named .aas }) = some xs) :
    core.run xs.length s =
      .next (((s.enterTransmitter.goto .txUpd).transmitUpdate n b).ackReturn.elapse xs.length) := by
  obtain ⟨c, hc, rfl⟩ := addressedLine_inputs (by decide) hxs
  have henter := run_enterTransmitter h.phase h.configured h.count
    (State.offersEntry_of_script hc (h.script.trans (List.append_assoc _ _ _)))
  have hbyte : (s.enterTransmitter.elapse 2).OffersByte m b :=
    State.offersByte_of_script (elapse_script_entry h.script)
  have hupdate := run_transmit (s := s.enterTransmitter.elapse 2) rfl h.count hbyte
  rw [State.goto_elapse, State.transmitUpdate_elapse] at hupdate
  obtain ⟨hp, hi, hparams, hscript⟩ := State.transmitUpdate_keeps n b (s.enterTransmitter.goto .txUpd)
  exact run_addressed hc h.script henter hupdate ⟨hp, hi.trans h.index, hparams, hscript⟩

/-- Settles O57: the write's update echoes the byte and leaves counter 0, at which the read's update writes no byte. -/
theorem receivedByteStaysForTheNextRead : Obligations.ReceivedByteStaysForTheNextRead := by
  intro s b b' d m m' write read rest hp hconf hcnt hi hwrite hread hscript
  rw [List.append_assoc] at hscript
  have hfirst := run_writeLine ⟨hp, hconf, hi, hcnt, hscript⟩ hwrite
  have hsecond := run_readLine (n := 0) (s := ((s.enterReceiver.goto .rxUpd).receiveUpdate 2 b).ackReturn.elapse
    write.length) ⟨rfl, hconf, hi, rfl, elapse_script_of_append hscript⟩ hread
  exact ⟨_, _, hfirst, hsecond, rfl, rfl, rfl, rfl, rfl, rfl, rfl, rfl⟩

end Sys2Proof.Machine
end

section
/-! Successive reads (43_addressed_transmit.md rule R89): the lines of a script one by one, and the bytes they write. -/

namespace Sys2Proof.Machine

/-! ### A script of reads -/

/-- A read pseudo-operation is a read line without polls (R57). -/
theorem mreadEcho_inputs (p : Params) (d b : Byte) : Stimulus.inputs p d (.mreadEcho b) = Stimulus.inputs p d (.invoke
    { c1 := .named .aas, dir := some .transmitter, wait := some 0, drr := b, c2 := .named .aas }) := rfl

/-- A read does not hold the ready conditions: its wait ends (R56). -/
theorem mreadEcho_holds (m : CauseMap) (b : Byte) : (Stimulus.mreadEcho b).holds m false = false := rfl

/-- The inputs of a first read and of the reads after it. -/
theorem streamFrom_mreadEcho {p : Params} {d b : Byte} {bs : List Byte} {reads : InputStream}
    (h : streamFrom p d false ((b :: bs).map .mreadEcho) = some reads) :
    ∃ xs later, Stimulus.inputs p d (.mreadEcho b) = some xs ∧ streamFrom p d false (bs.map .mreadEcho) = some later ∧
      reads.script = xs ++ later.script := by
  rw [List.map_cons, streamFrom, mreadEcho_holds] at h
  split at h
  · next xs later hxs hlater => exact ⟨xs, later, hxs, hlater, by rw [← Option.some.inj h]; rfl⟩
  · cases h

/-! ### One read -/

/-- The counter a read leaves (R85 to R88). -/
def countAfterRead (n : Count) : Count := if n = 0 then 1 else if n = 1 then 2 else if n = 2 then 3 else 2

/-- The bytes a read writes, with `b` in the receive register (R85 to R88). -/
def bytesOfRead (n : Count) (b : Byte) : List Byte :=
  if n = 0 then [] else if n = 1 then [b] else if n = 2 then [0x55] else [0xFF]

@[simp] theorem bytesWritten_append (tr tr' : List Event) :
    bytesWritten (tr ++ tr') = bytesWritten tr ++ bytesWritten tr' := List.filterMap_append

theorem State.transmitUpdate_cnt (n : Count) (b : Byte) (s : State) :
    (s.transmitUpdate n b).cnt = some (countAfterRead n) := by
  unfold State.transmitUpdate countAfterRead
  split_ifs <;> rfl

theorem State.transmitUpdate_bytesWritten (n : Count) (b : Byte) (s : State) :
    bytesWritten (s.transmitUpdate n b).trace = bytesWritten s.trace ++ bytesOfRead n b := by
  unfold State.transmitUpdate bytesOfRead
  split_ifs <;> simp [bytesWritten, Config.constA, Config.constB]

theorem State.transmitUpdate_configured (n : Count) (b : Byte) (s : State) :
    (s.transmitUpdate n b).configured = s.configured := by
  unfold State.transmitUpdate
  split_ifs <;> rfl

/-- A read at counter `n` ends between lines, at the next counter, with its bytes written. -/
theorem run_read {s : State} {n : Count} {b d : Byte} {xs rest : List Inputs} (h : s.Between n (xs ++ rest))
    (hxs : Stimulus.inputs s.params d (.mreadEcho b) = some xs) :
    ∃ t : State, core.run xs.length s = .next t ∧ t.Between (countAfterRead n) rest ∧ t.params = s.params ∧
      bytesWritten t.trace = bytesWritten s.trace ++ bytesOfRead n b := by
  have hrun := run_readLine h ((mreadEcho_inputs _ d b).symm.trans hxs)
  obtain ⟨-, hi, hparams, hscript⟩ := State.transmitUpdate_keeps n b (s.enterTransmitter.goto .txUpd)
  refine ⟨_, hrun, ⟨rfl, ?configured, hi.trans h.index, State.transmitUpdate_cnt n b _, ?script⟩, hparams, ?bytes⟩
  case configured => exact (State.transmitUpdate_configured n b _).trans h.configured
  case script => exact elapse_script_of_append (hscript.trans h.script)
  case bytes =>
    have htrace := State.transmitUpdate_bytesWritten n b (s.enterTransmitter.goto .txUpd)
    simpa [State.elapse, bytesWritten] using htrace

/-! ### Any number of reads -/

/-- The bytes of successive reads from counter `n`. -/
def bytesOfReads : Count → List Byte → List Byte
  | _, []      => []
  | n, b :: bs => bytesOfRead n b ++ bytesOfReads (countAfterRead n) bs

/-- Successive reads write their bytes one after the other and end at rest. -/
theorem run_reads {bs : List Byte} {s : State} {n : Count} {d : Byte} {reads : InputStream} {rest : List Inputs}
    (h : s.Between n (reads.script ++ rest)) (hreads : scriptInputs s.params d (bs.map .mreadEcho) = some reads) :
    ∃ t : State, core.run reads.script.length s = .next t ∧ t.phase = .idle ∧
      bytesWritten t.trace = bytesWritten s.trace ++ bytesOfReads n bs := by
  induction bs generalizing s n reads with
  | nil =>
    obtain rfl := Option.some.inj hreads
    exact ⟨s, rfl, h.phase, (List.append_nil _).symm⟩
  | cons b bs ih =>
    obtain ⟨xs, later, hxs, hlater, hscript⟩ := streamFrom_mreadEcho hreads
    rw [hscript, List.append_assoc] at h
    obtain ⟨t, ht, hbetween, hparams, htrace⟩ := run_read h hxs
    obtain ⟨u, hu, hidle, hutrace⟩ := ih hbetween (hparams ▸ hlater)
    refine ⟨u, ?_, hidle, ?_⟩
    · rw [hscript, List.length_append, run_add _ _ ht, hu]
    · rw [hutrace, htrace, bytesOfReads, List.append_assoc]

/-- From counter 2 the constants A and B alternate, from counter 3 with B first (R87, R88). -/
theorem bytesOfReads_alternate (bs : List Byte) :
    bytesOfReads 2 bs = bs.mapIdx (fun n _ => if n % 2 = 0 then (0x55 : Byte) else 0xFF) ∧
    bytesOfReads 3 bs = bs.mapIdx (fun n _ => if n % 2 = 0 then (0xFF : Byte) else 0x55) := by
  induction bs with
  | nil => exact ⟨rfl, rfl⟩
  | cons b bs ih =>
    obtain ⟨ih2, ih3⟩ := ih
    have hparity (n : Nat) (x y : Byte) : (if (n + 1) % 2 = 0 then x else y) = if n % 2 = 0 then y else x := by
      obtain h | h := n.mod_two_eq_zero_or_one <;> simp [Nat.add_mod, h]
    rw [List.mapIdx_cons, List.mapIdx_cons]
    simp only [hparity]
    exact ⟨congrArg (0x55 :: ·) ih3, congrArg (0xFF :: ·) ih2⟩

/-- One byte each. -/
theorem flatten_mapIdx_singleton {α β : Type} (f : Nat → α → β) (l : List α) :
    (l.mapIdx fun n a => [f n a]).flatten = l.mapIdx f := by
  induction l generalizing f with
  | nil => rfl
  | cons a l ih => rw [List.mapIdx_cons, List.mapIdx_cons, List.flatten_cons, ih]; rfl

/-- From counter 0: nothing, the receive register, and then the alternation from counter 2 (R85, R86). -/
theorem bytesOfReads_from_zero (bs : List Byte) : bytesOfReads 0 bs = (bs.mapIdx (fun n b =>
    if n = 0 then [] else if n = 1 then [b] else if n % 2 = 0 then [0x55] else [0xFF])).flatten := by
  match bs with
  | [] => rfl
  | [b] => rfl
  | b :: b' :: bs =>
    have hrest (n : Nat) (a : Byte) : (if n + 1 + 1 = 0 then [] else if n + 1 + 1 = 1 then [a] else
        if (n + 1 + 1) % 2 = 0 then [0x55] else [0xFF]) = [if n % 2 = 0 then (0x55 : Byte) else 0xFF] := by
      rw [if_neg (by omega), if_neg (by omega), Nat.add_assoc, Nat.add_mod_right]
      split_ifs <;> rfl
    rw [List.mapIdx_cons, List.mapIdx_cons, List.flatten_cons, List.flatten_cons]
    simp only [hrest]
    rw [flatten_mapIdx_singleton, ← (bytesOfReads_alternate bs).1]
    rfl

/-- Settles O58: reads write the bytes of their counters, which run 0, 1, 2, 3, 2, 3 and so on. -/
theorem readsWriteTheTransmitSequence : Obligations.ReadsWriteTheTransmitSequence := by
  intro s bs d reads rest hp hconf hi hreads hscript
  refine ⟨fun hcnt => ?_, fun hcnt => ?_⟩
  · rw [← bytesOfReads_from_zero]
    exact run_reads ⟨hp, hconf, hi, hcnt, hscript⟩ hreads
  · rw [← (bytesOfReads_alternate bs).1]
    exact run_reads ⟨hp, hconf, hi, hcnt, hscript⟩ hreads

end Sys2Proof.Machine
end

section
/-! A line with an endless wait (30_encoding.md R56, 70_reset_and_hazards.md R118): its inputs, and the run that hangs. -/

namespace Sys2Proof.Machine

/-- An endless line gives an addressed-as-slave cause and a recognised direction, and lists its entry and its first poll. -/
theorem endlessLine_inputs {p : Params} {d : Byte} {cmd : InvokeCommand} {xs : List Inputs}
    (hend : cmd.endless p.causeMap = true) (h : cmd.inputs p d = some xs) :
    ∃ (c : CauseCode) (dir : DirSample), causeClassOf p.causeMap c = .aas ∧ cmd.dir = some dir ∧ dir ≠ .unrecognised ∧
      xs = entryInputs p dir cmd.drr d c ++ [quietInputs c cmd.drr d] := by
  rw [InvokeCommand.endless, Bool.and_eq_true, Option.isNone_iff_eq_none, Option.any_eq_true] at hend
  obtain ⟨hwait, c, hcode, haddr⟩ := hend
  have haddressed := haddr
  rw [InvokeCommand.addressed, Bool.and_eq_true, beq_iff_eq, Option.any_eq_true] at haddr
  obtain ⟨hclass, dir, hdir, hne⟩ := haddr
  refine ⟨c, dir, hclass, hdir, by simpa using hne, ?_⟩
  rw [InvokeCommand.inputs, hcode] at h
  split at h
  · next c1 c2 rest hc1 _ _ =>
    obtain rfl := Option.some.inj hc1
    split_ifs at h
    rw [← Option.some.inj h]
    simp [invocationInputs, haddressed, hwait, hdir, addressedInputs, entryInputs]
  · cases h

/-- The inputs of a script that begins with an endless line: the line's, and the later lines' with the wait still held. -/
theorem streamFrom_endless {p : Params} {d : Byte} {cmd : InvokeCommand} {later : List Stimulus} {stream : InputStream}
    (hend : cmd.endless p.causeMap = true) (h : scriptInputs p d (.invoke cmd :: later) = some stream) :
    ∃ xs rest, cmd.inputs p d = some xs ∧ streamFrom p d true later = some rest ∧ stream.script = xs ++ rest.script ∧
      stream.noReadyAfter = rest.noReadyAfter := by
  have hholds : (Stimulus.invoke cmd).holds p.causeMap false = true := hend
  rw [scriptInputs, streamFrom, hholds] at h
  split at h
  · next xs rest hxs hrest => exact ⟨xs, rest, hxs, hrest, by rw [← Option.some.inj h]; exact ⟨rfl, rfl⟩⟩
  · cases h

/-- After the entry of an endless line no poll finds a ready condition until RESET is offered. -/
theorem noReady_after_entry {s : State} {p : Params} {d : Byte} {q : Inputs} {entry : List Inputs} {later : List Stimulus}
    {rest : InputStream} {n : Nat} (hrest : streamFrom p d true later = some rest)
    (hq : q.rrdyIn = 0 ∧ q.xrdyIn = 0) (hscript : s.script = entry ++ [q] ++ rest.script)
    (hafter : s.noReadyAfter = rest.noReadyAfter) (hreset : s.NoResetFor (entry.length + n)) :
    ∀ k < n, (s.inputsAt (entry.length + k)).rrdyIn = 0 ∧ (s.inputsAt (entry.length + k)).xrdyIn = 0 := by
  have hlen (k : Nat) : (entry ++ [q]).length + k = entry.length + (k + 1) := by
    rw [List.length_append, List.length_singleton]
    omega
  rintro (_ | k) hk
  · have h0 : s.inputsAt (entry.length + 0) = q := State.inputsAt_of_getElem? (by simp [hscript])
    rw [h0]
    exact hq
  · have hlater := streamFrom_noReady hrest (entry ++ [q]) hscript hafter (n := n - 1)
      (fun j hj => hlen j ▸ hreset _ (by omega)) k (by omega)
    exact hlen k ▸ hlater

/-- A busy-wait entered after two steps, none of whose polls finds a ready condition, lasts for the rest of the run. -/
theorem run_entry_hangs {s u : State} {n : Nat} (henter : core.run 2 s = .next (u.elapse 2)) (hw : u.Waiting)
    (hcnt : u.cnt ≠ none) (hin : ∀ k, u.inputsAt k = s.inputsAt k) (hreset : s.NoResetFor (2 + n))
    (hready : ∀ k < n, (s.inputsAt (2 + k)).rrdyIn = 0 ∧ (s.inputsAt (2 + k)).xrdyIn = 0) :
    core.run (n + 2) s = .next ((u.elapse 2).elapse n) := by
  have hinputs (k : Nat) : (u.elapse 2).inputsAt k = s.inputsAt (2 + k) := by rw [State.elapse_inputsAt, hin]
  have hwait := waitsHoldWithoutTheReadyCondition n (u.elapse 2) hcnt
    (fun k hk => hinputs k ▸ hreset (2 + k) (by omega))
    (hw.imp (fun hp => ⟨hp, fun k hk => hinputs k ▸ (hready k hk).1⟩)
      (fun hp => ⟨hp, fun k hk => hinputs k ▸ (hready k hk).2⟩))
  rw [Nat.add_comm, run_add 2 n henter, hwait]
  rfl

/-- Settles O60: the line's entry reaches the wait of its direction, and no poll of it, of the later lines or beyond them
finds a ready condition. -/
theorem endlessWaitLineHangsUntilReset : Obligations.EndlessWaitLineHangsUntilReset := by
  intro s cmd later d stream n hp hconf hcnt hend hstream hreset
  obtain ⟨xs, rest, hxs, hrest, hscript, hafter⟩ := streamFrom_endless hend hstream
  obtain ⟨c, dir, hclass, hdir, hne, rfl⟩ := endlessLine_inputs hend hxs
  rw [Nat.add_comm] at hreset
  have hready := noReady_after_entry (s := s.load stream) hrest ⟨rfl, rfl⟩ hscript hafter hreset
  have hentry : (s.load stream).OffersEntry dir :=
    State.offersEntry_of_script hclass (hscript.trans (List.append_assoc _ _ _))
  obtain ⟨k, hk⟩ := Option.ne_none_iff_exists'.mp hcnt
  cases dir
  case unrecognised => exact absurd rfl hne
  case receiver =>
    have henter := run_enterReceiver (s := s.load stream) hp hconf hk hentry
    refine ⟨_, run_entry_hangs henter (.inl rfl) hcnt (fun _ => rfl) hreset hready, .inl rfl, ?_, rfl, rfl, rfl, rfl⟩
    rw [if_pos hdir]
    rfl
  case transmitter =>
    have henter := run_enterTransmitter (s := s.load stream) hp hconf hk hentry
    refine ⟨_, run_entry_hangs henter (.inr rfl) hcnt (fun _ => rfl) hreset hready, .inr rfl, ?_, rfl, rfl, rfl, rfl⟩
    rw [if_neg (by rw [hdir]; decide)]
    rfl

end Sys2Proof.Machine
end
